-- ==== Sys2Proof/Word.lean ====
section
/-! DEFINITION. The two word widths of the core (R7, R8): bytes and 16-bit words. -/

namespace Sys2Proof

/-- An 8-bit value: a general register, a memory byte, a port number or a port datum (R7, R8). -/
abbrev Byte := BitVec 8

/-- A 16-bit value: a register pair, SP, PC, an address, a 16-bit immediate (R7, R8). -/
abbrev Word := BitVec 16

end Sys2Proof
end

