-- ==== Sys2Proof/Syntax.lean ====
section
/-! DEFINITION. The instruction set as syntax: one constructor of `Instr` for each of the 256 rows of
spec/opcode_table.json (R108), the alias rows of R112 among them, because an alias byte has its own membership in
IMPL_SET, its own fallback length (R273) and, for CALL, no diagnostic hook (R269). The operand kinds of R103 to R106
name the rows of one shape through the form functions at the end. -/

namespace Sys2Proof

/-- Instruction lengths (R9, R100). -/
inductive InstrLen
  | one | two | three
  deriving DecidableEq, Repr

/-- The seven 8-bit registers (R30). -/
inductive Reg8
  | b | c | d | e | h | l | a
  deriving DecidableEq, Repr

/-- The operand a 3-bit register code selects: a register, or M, the byte at address HL (R103). -/
inductive Operand8
  | reg (r : Reg8)
  | m
  deriving DecidableEq, Repr

/-- The register pair a 2-bit code selects in LXI, DAD, INX and DCX, the SP form of R104. -/
inductive Pair
  | bc | de | hl | sp
  deriving DecidableEq, Repr

/-- The register pairs PUSH and POP move, PSW apart (R104, R240, R242). -/
inductive StackPair
  | bc | de | hl
  deriving DecidableEq, Repr

/-- The two pairs LDAX and STAX address memory with (R140, R141). -/
inductive IndexPair
  | bc | de
  deriving DecidableEq, Repr

/-- The eight conditions of R105, by their suffixes. -/
inductive Cond
  | nz | z | nc | c | po | pe | p | m
  deriving DecidableEq, Repr

/-- The eight ALU operations of R106, by their register-form mnemonics. -/
inductive AluOp
  | add | adc | sub | sbb | ana | xra | ora | cmp
  deriving DecidableEq, Repr

/-- One constructor per row of spec/opcode_table.json: the 3-byte, the 2-byte and the 1-byte rows, each in the order of
the opcode byte (constructors with operands come first: Lean's runtime numbers only 244 of those). -/
inductive Instr
  /-- 0x01 LXI B,d16, R135. -/
  | lxiB (d16 : Word)
  /-- 0x11 LXI D,d16, R135. -/
  | lxiD (d16 : Word)
  /-- 0x21 LXI H,d16, R135. -/
  | lxiH (d16 : Word)
  /-- 0x22 SHLD a16, R139. -/
  | shld (a16 : Word)
  /-- 0x2A LHLD a16, R138. -/
  | lhld (a16 : Word)
  /-- 0x31 LXI SP,d16, R135. -/
  | lxiSp (d16 : Word)
  /-- 0x32 STA a16, R137. -/
  | sta (a16 : Word)
  /-- 0x3A LDA a16, R136. -/
  | lda (a16 : Word)
  /-- 0xC2 JNZ a16, R213. -/
  | jnz (a16 : Word)
  /-- 0xC3 JMP a16, R212. -/
  | jmp (a16 : Word)
  /-- 0xC4 CNZ a16, R215. -/
  | cnz (a16 : Word)
  /-- 0xCA JZ a16, R213. -/
  | jz (a16 : Word)
  /-- 0xCB JMP a16 (alias), R267. -/
  | jmpCB (a16 : Word)
  /-- 0xCC CZ a16, R215. -/
  | cz (a16 : Word)
  /-- 0xCD CALL a16, R214. -/
  | call (a16 : Word)
  /-- 0xD2 JNC a16, R213. -/
  | jnc (a16 : Word)
  /-- 0xD4 CNC a16, R215. -/
  | cnc (a16 : Word)
  /-- 0xDA JC a16, R213. -/
  | jc (a16 : Word)
  /-- 0xDC CC a16, R215. -/
  | cc (a16 : Word)
  /-- 0xDD CALL a16 (alias), R269. -/
  | callDD (a16 : Word)
  /-- 0xE2 JPO a16, R213. -/
  | jpo (a16 : Word)
  /-- 0xE4 CPO a16, R215. -/
  | cpo (a16 : Word)
  /-- 0xEA JPE a16, R213. -/
  | jpe (a16 : Word)
  /-- 0xEC CPE a16, R215. -/
  | cpe (a16 : Word)
  /-- 0xED CALL a16 (alias), R269. -/
  | callED (a16 : Word)
  /-- 0xF2 JP a16, R213. -/
  | jp (a16 : Word)
  /-- 0xF4 CP a16, R215. -/
  | cp (a16 : Word)
  /-- 0xFA JM a16, R213. -/
  | jm (a16 : Word)
  /-- 0xFC CM a16, R215. -/
  | cm (a16 : Word)
  /-- 0xFD CALL a16 (alias), R269. -/
  | callFD (a16 : Word)
  /-- 0x06 MVI B,d8, R133. -/
  | mviB (d8 : Byte)
  /-- 0x0E MVI C,d8, R133. -/
  | mviC (d8 : Byte)
  /-- 0x16 MVI D,d8, R133. -/
  | mviD (d8 : Byte)
  /-- 0x1E MVI E,d8, R133. -/
  | mviE (d8 : Byte)
  /-- 0x26 MVI H,d8, R133. -/
  | mviH (d8 : Byte)
  /-- 0x2E MVI L,d8, R133. -/
  | mviL (d8 : Byte)
  /-- 0x36 MVI M,d8, R134. -/
  | mviM (d8 : Byte)
  /-- 0x3E MVI A,d8, R133. -/
  | mviA (d8 : Byte)
  /-- 0xC6 ADI d8, R155. -/
  | adi (d8 : Byte)
  /-- 0xCE ACI d8, R156. -/
  | aci (d8 : Byte)
  /-- 0xD3 OUT p8, R261. -/
  | outPort (p8 : Byte)
  /-- 0xD6 SUI d8, R157. -/
  | sui (d8 : Byte)
  /-- 0xDB IN p8, R260. -/
  | inPort (p8 : Byte)
  /-- 0xDE SBI d8, R158. -/
  | sbi (d8 : Byte)
  /-- 0xE6 ANI d8, R185. -/
  | ani (d8 : Byte)
  /-- 0xEE XRI d8, R186. -/
  | xri (d8 : Byte)
  /-- 0xF6 ORI d8, R187. -/
  | ori (d8 : Byte)
  /-- 0xFE CPI d8, R188. -/
  | cpi (d8 : Byte)
  /-- 0x00 NOP, R265. -/
  | nop
  /-- 0x02 STAX B, R141. -/
  | staxB
  /-- 0x03 INX B, R163. -/
  | inxB
  /-- 0x04 INR B, R159. -/
  | inrB
  /-- 0x05 DCR B, R161. -/
  | dcrB
  /-- 0x07 RLC, R189. -/
  | rlc
  /-- 0x08 NOP (alias), R266. -/
  | nop08
  /-- 0x09 DAD B, R165. -/
  | dadB
  /-- 0x0A LDAX B, R140. -/
  | ldaxB
  /-- 0x0B DCX B, R164. -/
  | dcxB
  /-- 0x0C INR C, R159. -/
  | inrC
  /-- 0x0D DCR C, R161. -/
  | dcrC
  /-- 0x0F RRC, R190. -/
  | rrc
  /-- 0x10 NOP (alias), R266. -/
  | nop10
  /-- 0x12 STAX D, R141. -/
  | staxD
  /-- 0x13 INX D, R163. -/
  | inxD
  /-- 0x14 INR D, R159. -/
  | inrD
  /-- 0x15 DCR D, R161. -/
  | dcrD
  /-- 0x17 RAL, R191. -/
  | ral
  /-- 0x18 NOP (alias), R266. -/
  | nop18
  /-- 0x19 DAD D, R165. -/
  | dadD
  /-- 0x1A LDAX D, R140. -/
  | ldaxD
  /-- 0x1B DCX D, R164. -/
  | dcxD
  /-- 0x1C INR E, R159. -/
  | inrE
  /-- 0x1D DCR E, R161. -/
  | dcrE
  /-- 0x1F RAR, R192. -/
  | rar
  /-- 0x20 NOP (alias), R266. -/
  | nop20
  /-- 0x23 INX H, R163. -/
  | inxH
  /-- 0x24 INR H, R159. -/
  | inrH
  /-- 0x25 DCR H, R161. -/
  | dcrH
  /-- 0x27 DAA, R166. -/
  | daa
  /-- 0x28 NOP (alias), R266. -/
  | nop28
  /-- 0x29 DAD H, R165. -/
  | dadH
  /-- 0x2B DCX H, R164. -/
  | dcxH
  /-- 0x2C INR L, R159. -/
  | inrL
  /-- 0x2D DCR L, R161. -/
  | dcrL
  /-- 0x2F CMA, R193. -/
  | cma
  /-- 0x30 NOP (alias), R266. -/
  | nop30
  /-- 0x33 INX SP, R163. -/
  | inxSp
  /-- 0x34 INR M, R160. -/
  | inrM
  /-- 0x35 DCR M, R162. -/
  | dcrM
  /-- 0x37 STC, R195. -/
  | stc
  /-- 0x38 NOP (alias), R266. -/
  | nop38
  /-- 0x39 DAD SP, R165. -/
  | dadSp
  /-- 0x3B DCX SP, R164. -/
  | dcxSp
  /-- 0x3C INR A, R159. -/
  | inrA
  /-- 0x3D DCR A, R161. -/
  | dcrA
  /-- 0x3F CMC, R194. -/
  | cmc
  /-- 0x40 MOV B,B, R130. -/
  | movBB
  /-- 0x41 MOV B,C, R130. -/
  | movBC
  /-- 0x42 MOV B,D, R130. -/
  | movBD
  /-- 0x43 MOV B,E, R130. -/
  | movBE
  /-- 0x44 MOV B,H, R130. -/
  | movBH
  /-- 0x45 MOV B,L, R130. -/
  | movBL
  /-- 0x46 MOV B,M, R131. -/
  | movBM
  /-- 0x47 MOV B,A, R130. -/
  | movBA
  /-- 0x48 MOV C,B, R130. -/
  | movCB
  /-- 0x49 MOV C,C, R130. -/
  | movCC
  /-- 0x4A MOV C,D, R130. -/
  | movCD
  /-- 0x4B MOV C,E, R130. -/
  | movCE
  /-- 0x4C MOV C,H, R130. -/
  | movCH
  /-- 0x4D MOV C,L, R130. -/
  | movCL
  /-- 0x4E MOV C,M, R131. -/
  | movCM
  /-- 0x4F MOV C,A, R130. -/
  | movCA
  /-- 0x50 MOV D,B, R130. -/
  | movDB
  /-- 0x51 MOV D,C, R130. -/
  | movDC
  /-- 0x52 MOV D,D, R130. -/
  | movDD
  /-- 0x53 MOV D,E, R130. -/
  | movDE
  /-- 0x54 MOV D,H, R130. -/
  | movDH
  /-- 0x55 MOV D,L, R130. -/
  | movDL
  /-- 0x56 MOV D,M, R131. -/
  | movDM
  /-- 0x57 MOV D,A, R130. -/
  | movDA
  /-- 0x58 MOV E,B, R130. -/
  | movEB
  /-- 0x59 MOV E,C, R130. -/
  | movEC
  /-- 0x5A MOV E,D, R130. -/
  | movED
  /-- 0x5B MOV E,E, R130. -/
  | movEE
  /-- 0x5C MOV E,H, R130. -/
  | movEH
  /-- 0x5D MOV E,L, R130. -/
  | movEL
  /-- 0x5E MOV E,M, R131. -/
  | movEM
  /-- 0x5F MOV E,A, R130. -/
  | movEA
  /-- 0x60 MOV H,B, R130. -/
  | movHB
  /-- 0x61 MOV H,C, R130. -/
  | movHC
  /-- 0x62 MOV H,D, R130. -/
  | movHD
  /-- 0x63 MOV H,E, R130. -/
  | movHE
  /-- 0x64 MOV H,H, R130. -/
  | movHH
  /-- 0x65 MOV H,L, R130. -/
  | movHL
  /-- 0x66 MOV H,M, R131. -/
  | movHM
  /-- 0x67 MOV H,A, R130. -/
  | movHA
  /-- 0x68 MOV L,B, R130. -/
  | movLB
  /-- 0x69 MOV L,C, R130. -/
  | movLC
  /-- 0x6A MOV L,D, R130. -/
  | movLD
  /-- 0x6B MOV L,E, R130. -/
  | movLE
  /-- 0x6C MOV L,H, R130. -/
  | movLH
  /-- 0x6D MOV L,L, R130. -/
  | movLL
  /-- 0x6E MOV L,M, R131. -/
  | movLM
  /-- 0x6F MOV L,A, R130. -/
  | movLA
  /-- 0x70 MOV M,B, R132. -/
  | movMB
  /-- 0x71 MOV M,C, R132. -/
  | movMC
  /-- 0x72 MOV M,D, R132. -/
  | movMD
  /-- 0x73 MOV M,E, R132. -/
  | movME
  /-- 0x74 MOV M,H, R132. -/
  | movMH
  /-- 0x75 MOV M,L, R132. -/
  | movML
  /-- 0x76 HLT, R264. -/
  | hlt
  /-- 0x77 MOV M,A, R132. -/
  | movMA
  /-- 0x78 MOV A,B, R130. -/
  | movAB
  /-- 0x79 MOV A,C, R130. -/
  | movAC
  /-- 0x7A MOV A,D, R130. -/
  | movAD
  /-- 0x7B MOV A,E, R130. -/
  | movAE
  /-- 0x7C MOV A,H, R130. -/
  | movAH
  /-- 0x7D MOV A,L, R130. -/
  | movAL
  /-- 0x7E MOV A,M, R131. -/
  | movAM
  /-- 0x7F MOV A,A, R130. -/
  | movAA
  /-- 0x80 ADD B, R151. -/
  | addB
  /-- 0x81 ADD C, R151. -/
  | addC
  /-- 0x82 ADD D, R151. -/
  | addD
  /-- 0x83 ADD E, R151. -/
  | addE
  /-- 0x84 ADD H, R151. -/
  | addH
  /-- 0x85 ADD L, R151. -/
  | addL
  /-- 0x86 ADD M, R151. -/
  | addM
  /-- 0x87 ADD A, R151. -/
  | addA
  /-- 0x88 ADC B, R152. -/
  | adcB
  /-- 0x89 ADC C, R152. -/
  | adcC
  /-- 0x8A ADC D, R152. -/
  | adcD
  /-- 0x8B ADC E, R152. -/
  | adcE
  /-- 0x8C ADC H, R152. -/
  | adcH
  /-- 0x8D ADC L, R152. -/
  | adcL
  /-- 0x8E ADC M, R152. -/
  | adcM
  /-- 0x8F ADC A, R152. -/
  | adcA
  /-- 0x90 SUB B, R153. -/
  | subB
  /-- 0x91 SUB C, R153. -/
  | subC
  /-- 0x92 SUB D, R153. -/
  | subD
  /-- 0x93 SUB E, R153. -/
  | subE
  /-- 0x94 SUB H, R153. -/
  | subH
  /-- 0x95 SUB L, R153. -/
  | subL
  /-- 0x96 SUB M, R153. -/
  | subM
  /-- 0x97 SUB A, R153. -/
  | subA
  /-- 0x98 SBB B, R154. -/
  | sbbB
  /-- 0x99 SBB C, R154. -/
  | sbbC
  /-- 0x9A SBB D, R154. -/
  | sbbD
  /-- 0x9B SBB E, R154. -/
  | sbbE
  /-- 0x9C SBB H, R154. -/
  | sbbH
  /-- 0x9D SBB L, R154. -/
  | sbbL
  /-- 0x9E SBB M, R154. -/
  | sbbM
  /-- 0x9F SBB A, R154. -/
  | sbbA
  /-- 0xA0 ANA B, R181. -/
  | anaB
  /-- 0xA1 ANA C, R181. -/
  | anaC
  /-- 0xA2 ANA D, R181. -/
  | anaD
  /-- 0xA3 ANA E, R181. -/
  | anaE
  /-- 0xA4 ANA H, R181. -/
  | anaH
  /-- 0xA5 ANA L, R181. -/
  | anaL
  /-- 0xA6 ANA M, R181. -/
  | anaM
  /-- 0xA7 ANA A, R181. -/
  | anaA
  /-- 0xA8 XRA B, R182. -/
  | xraB
  /-- 0xA9 XRA C, R182. -/
  | xraC
  /-- 0xAA XRA D, R182. -/
  | xraD
  /-- 0xAB XRA E, R182. -/
  | xraE
  /-- 0xAC XRA H, R182. -/
  | xraH
  /-- 0xAD XRA L, R182. -/
  | xraL
  /-- 0xAE XRA M, R182. -/
  | xraM
  /-- 0xAF XRA A, R182. -/
  | xraA
  /-- 0xB0 ORA B, R183. -/
  | oraB
  /-- 0xB1 ORA C, R183. -/
  | oraC
  /-- 0xB2 ORA D, R183. -/
  | oraD
  /-- 0xB3 ORA E, R183. -/
  | oraE
  /-- 0xB4 ORA H, R183. -/
  | oraH
  /-- 0xB5 ORA L, R183. -/
  | oraL
  /-- 0xB6 ORA M, R183. -/
  | oraM
  /-- 0xB7 ORA A, R183. -/
  | oraA
  /-- 0xB8 CMP B, R184. -/
  | cmpB
  /-- 0xB9 CMP C, R184. -/
  | cmpC
  /-- 0xBA CMP D, R184. -/
  | cmpD
  /-- 0xBB CMP E, R184. -/
  | cmpE
  /-- 0xBC CMP H, R184. -/
  | cmpH
  /-- 0xBD CMP L, R184. -/
  | cmpL
  /-- 0xBE CMP M, R184. -/
  | cmpM
  /-- 0xBF CMP A, R184. -/
  | cmpA
  /-- 0xC0 RNZ, R217. -/
  | rnz
  /-- 0xC1 POP B, R242. -/
  | popB
  /-- 0xC5 PUSH B, R240. -/
  | pushB
  /-- 0xC7 RST 0, R218. -/
  | rst0
  /-- 0xC8 RZ, R217. -/
  | rz
  /-- 0xC9 RET, R216. -/
  | ret
  /-- 0xCF RST 1, R218. -/
  | rst1
  /-- 0xD0 RNC, R217. -/
  | rnc
  /-- 0xD1 POP D, R242. -/
  | popD
  /-- 0xD5 PUSH D, R240. -/
  | pushD
  /-- 0xD7 RST 2, R218. -/
  | rst2
  /-- 0xD8 RC, R217. -/
  | rc
  /-- 0xD9 RET (alias), R268. -/
  | retD9
  /-- 0xDF RST 3, R218. -/
  | rst3
  /-- 0xE0 RPO, R217. -/
  | rpo
  /-- 0xE1 POP H, R242. -/
  | popH
  /-- 0xE3 XTHL, R244. -/
  | xthl
  /-- 0xE5 PUSH H, R240. -/
  | pushH
  /-- 0xE7 RST 4, R218. -/
  | rst4
  /-- 0xE8 RPE, R217. -/
  | rpe
  /-- 0xE9 PCHL, R219. -/
  | pchl
  /-- 0xEB XCHG, R142. -/
  | xchg
  /-- 0xEF RST 5, R218. -/
  | rst5
  /-- 0xF0 RP, R217. -/
  | rp
  /-- 0xF1 POP PSW, R243. -/
  | popPsw
  /-- 0xF3 DI, R263. -/
  | di
  /-- 0xF5 PUSH PSW, R241. -/
  | pushPsw
  /-- 0xF7 RST 6, R218. -/
  | rst6
  /-- 0xF8 RM, R217. -/
  | rm
  /-- 0xF9 SPHL, R245. -/
  | sphl
  /-- 0xFB EI, R262. -/
  | ei
  /-- 0xFF RST 7, R218. -/
  | rst7
  deriving DecidableEq, Repr

/-- MOV r1,r2, `01DDDSSS` with both codes registers: 49 rows (R130). -/
def movForm : Reg8 → Reg8 → Instr
  | .b, .b => .movBB
  | .b, .c => .movBC
  | .b, .d => .movBD
  | .b, .e => .movBE
  | .b, .h => .movBH
  | .b, .l => .movBL
  | .b, .a => .movBA
  | .c, .b => .movCB
  | .c, .c => .movCC
  | .c, .d => .movCD
  | .c, .e => .movCE
  | .c, .h => .movCH
  | .c, .l => .movCL
  | .c, .a => .movCA
  | .d, .b => .movDB
  | .d, .c => .movDC
  | .d, .d => .movDD
  | .d, .e => .movDE
  | .d, .h => .movDH
  | .d, .l => .movDL
  | .d, .a => .movDA
  | .e, .b => .movEB
  | .e, .c => .movEC
  | .e, .d => .movED
  | .e, .e => .movEE
  | .e, .h => .movEH
  | .e, .l => .movEL
  | .e, .a => .movEA
  | .h, .b => .movHB
  | .h, .c => .movHC
  | .h, .d => .movHD
  | .h, .e => .movHE
  | .h, .h => .movHH
  | .h, .l => .movHL
  | .h, .a => .movHA
  | .l, .b => .movLB
  | .l, .c => .movLC
  | .l, .d => .movLD
  | .l, .e => .movLE
  | .l, .h => .movLH
  | .l, .l => .movLL
  | .l, .a => .movLA
  | .a, .b => .movAB
  | .a, .c => .movAC
  | .a, .d => .movAD
  | .a, .e => .movAE
  | .a, .h => .movAH
  | .a, .l => .movAL
  | .a, .a => .movAA

/-- MOV r,M (R131). -/
def movFromM : Reg8 → Instr
  | .b => .movBM
  | .c => .movCM
  | .d => .movDM
  | .e => .movEM
  | .h => .movHM
  | .l => .movLM
  | .a => .movAM

/-- MOV M,r (R132). -/
def movToM : Reg8 → Instr
  | .b => .movMB
  | .c => .movMC
  | .d => .movMD
  | .e => .movME
  | .h => .movMH
  | .l => .movML
  | .a => .movMA

/-- MVI r,d8 (R133). -/
def mviForm : Reg8 → Byte → Instr
  | .b, d8 => .mviB d8
  | .c, d8 => .mviC d8
  | .d, d8 => .mviD d8
  | .e, d8 => .mviE d8
  | .h, d8 => .mviH d8
  | .l, d8 => .mviL d8
  | .a, d8 => .mviA d8

/-- INR r (R159). -/
def inrForm : Reg8 → Instr
  | .b => .inrB
  | .c => .inrC
  | .d => .inrD
  | .e => .inrE
  | .h => .inrH
  | .l => .inrL
  | .a => .inrA

/-- DCR r (R161). -/
def dcrForm : Reg8 → Instr
  | .b => .dcrB
  | .c => .dcrC
  | .d => .dcrD
  | .e => .dcrE
  | .h => .dcrH
  | .l => .dcrL
  | .a => .dcrA

/-- LXI rp,d16 (R135). -/
def lxiForm : Pair → Word → Instr
  | .bc, d16 => .lxiB d16
  | .de, d16 => .lxiD d16
  | .hl, d16 => .lxiH d16
  | .sp, d16 => .lxiSp d16

/-- INX rp (R163). -/
def inxForm : Pair → Instr
  | .bc => .inxB
  | .de => .inxD
  | .hl => .inxH
  | .sp => .inxSp

/-- DCX rp (R164). -/
def dcxForm : Pair → Instr
  | .bc => .dcxB
  | .de => .dcxD
  | .hl => .dcxH
  | .sp => .dcxSp

/-- DAD rp (R165). -/
def dadForm : Pair → Instr
  | .bc => .dadB
  | .de => .dadD
  | .hl => .dadH
  | .sp => .dadSp

/-- LDAX rp (R140). -/
def ldaxForm : IndexPair → Instr
  | .bc => .ldaxB
  | .de => .ldaxD

/-- STAX rp (R141). -/
def staxForm : IndexPair → Instr
  | .bc => .staxB
  | .de => .staxD

/-- PUSH rp (R240). -/
def pushForm : StackPair → Instr
  | .bc => .pushB
  | .de => .pushD
  | .hl => .pushH

/-- POP rp (R242). -/
def popForm : StackPair → Instr
  | .bc => .popB
  | .de => .popD
  | .hl => .popH

/-- The ALU operations on a register or M, `10AAASSS`: 64 rows (R151 to R154, R181 to R184). -/
def aluForm : AluOp → Operand8 → Instr
  | .add, .reg .b => .addB
  | .add, .reg .c => .addC
  | .add, .reg .d => .addD
  | .add, .reg .e => .addE
  | .add, .reg .h => .addH
  | .add, .reg .l => .addL
  | .add, .reg .a => .addA
  | .add, .m => .addM
  | .adc, .reg .b => .adcB
  | .adc, .reg .c => .adcC
  | .adc, .reg .d => .adcD
  | .adc, .reg .e => .adcE
  | .adc, .reg .h => .adcH
  | .adc, .reg .l => .adcL
  | .adc, .reg .a => .adcA
  | .adc, .m => .adcM
  | .sub, .reg .b => .subB
  | .sub, .reg .c => .subC
  | .sub, .reg .d => .subD
  | .sub, .reg .e => .subE
  | .sub, .reg .h => .subH
  | .sub, .reg .l => .subL
  | .sub, .reg .a => .subA
  | .sub, .m => .subM
  | .sbb, .reg .b => .sbbB
  | .sbb, .reg .c => .sbbC
  | .sbb, .reg .d => .sbbD
  | .sbb, .reg .e => .sbbE
  | .sbb, .reg .h => .sbbH
  | .sbb, .reg .l => .sbbL
  | .sbb, .reg .a => .sbbA
  | .sbb, .m => .sbbM
  | .ana, .reg .b => .anaB
  | .ana, .reg .c => .anaC
  | .ana, .reg .d => .anaD
  | .ana, .reg .e => .anaE
  | .ana, .reg .h => .anaH
  | .ana, .reg .l => .anaL
  | .ana, .reg .a => .anaA
  | .ana, .m => .anaM
  | .xra, .reg .b => .xraB
  | .xra, .reg .c => .xraC
  | .xra, .reg .d => .xraD
  | .xra, .reg .e => .xraE
  | .xra, .reg .h => .xraH
  | .xra, .reg .l => .xraL
  | .xra, .reg .a => .xraA
  | .xra, .m => .xraM
  | .ora, .reg .b => .oraB
  | .ora, .reg .c => .oraC
  | .ora, .reg .d => .oraD
  | .ora, .reg .e => .oraE
  | .ora, .reg .h => .oraH
  | .ora, .reg .l => .oraL
  | .ora, .reg .a => .oraA
  | .ora, .m => .oraM
  | .cmp, .reg .b => .cmpB
  | .cmp, .reg .c => .cmpC
  | .cmp, .reg .d => .cmpD
  | .cmp, .reg .e => .cmpE
  | .cmp, .reg .h => .cmpH
  | .cmp, .reg .l => .cmpL
  | .cmp, .reg .a => .cmpA
  | .cmp, .m => .cmpM

/-- The ALU operations on an immediate, `11AAA110` (R155 to R158, R185 to R188). -/
def aluImmForm : AluOp → Byte → Instr
  | .add, d8 => .adi d8
  | .adc, d8 => .aci d8
  | .sub, d8 => .sui d8
  | .sbb, d8 => .sbi d8
  | .ana, d8 => .ani d8
  | .xra, d8 => .xri d8
  | .ora, d8 => .ori d8
  | .cmp, d8 => .cpi d8

/-- Jcc a16 (R213). -/
def jccForm : Cond → Word → Instr
  | .nz, a16 => .jnz a16
  | .z, a16 => .jz a16
  | .nc, a16 => .jnc a16
  | .c, a16 => .jc a16
  | .po, a16 => .jpo a16
  | .pe, a16 => .jpe a16
  | .p, a16 => .jp a16
  | .m, a16 => .jm a16

/-- Ccc a16 (R215). -/
def cccForm : Cond → Word → Instr
  | .nz, a16 => .cnz a16
  | .z, a16 => .cz a16
  | .nc, a16 => .cnc a16
  | .c, a16 => .cc a16
  | .po, a16 => .cpo a16
  | .pe, a16 => .cpe a16
  | .p, a16 => .cp a16
  | .m, a16 => .cm a16

/-- Rcc (R217). -/
def rccForm : Cond → Instr
  | .nz => .rnz
  | .z => .rz
  | .nc => .rnc
  | .c => .rc
  | .po => .rpo
  | .pe => .rpe
  | .p => .rp
  | .m => .rm

/-- RST n, n the three bits NNN (R218). -/
def rstForm (n : Fin 8) : Instr :=
  match n with
  | 0 => .rst0
  | 1 => .rst1
  | 2 => .rst2
  | 3 => .rst3
  | 4 => .rst4
  | 5 => .rst5
  | 6 => .rst6
  | 7 => .rst7

end Sys2Proof
end

