-- ==== Sys2Proof/Config.lean ====
section
/-! DEFINITION. The parameters of R10, as plain data that State carries and no step changes, and the two free
values of the model (`draw8` of R16, and the value of an OpcodeReached notification). Every statement quantifies over
State, so over every value of every parameter. -/

namespace Sys2Proof

/-- `draw8` of R16: an 8-bit value the model leaves free, one for each value of the counter `draws` of State.
It has no body: nothing can be proved about its value. DESIGN CHOICE of the form, notes/assumptions/8.md (safe). -/
opaque Config.draw8 : Nat → Byte

/-- The value argument of an OpcodeReached notification, a draw (R322, D38): one free value for each value of the counter
`notices` of State. No body, as `draw8`; notes/assumptions/8.md (safe). -/
opaque Config.noticeValue : Nat → Byte

/-- The named parameters of R10. IMPL_SET is held as its complement and FALLBACK_LEN as its differences from the
default of R273, so that both are short plain data (notes/assumptions/1.md, 2.md, 3.md). PC_START is the argument
of `init` (R342). -/
structure MachineConfig where
  /-- ROM_SIZE, in bytes. -/
  romSize : Nat
  /-- RAM_SIZE, in bytes; also the mirror period. -/
  ramSize : Nat
  /-- ROM_WRITEABLE. -/
  romWriteable : Bool
  /-- RAM_MIRRORED. -/
  ramMirrored : Bool
  /-- SENTINEL: what a byte of storage reads as before any load or write. -/
  sentinel : Byte
  /-- The opcodes outside IMPL_SET, strictly rising. -/
  unimplemented : List Byte
  /-- Where FALLBACK_LEN differs from its default, by opcode, strictly rising. -/
  fallbackLens : List (Byte × InstrLen)
  /-- INT_CLEARS_IE. -/
  intClearsIe : Bool
  /-- DIAG_ENABLED. -/
  diagEnabled : Bool
  /-- DIAG_VECTOR. -/
  diagVector : Word
  /-- DIAG_PRINT_C. -/
  diagPrintC : Byte
  deriving DecidableEq, Repr

/-- The parameter values of State.reset. DESIGN CHOICE where R10 says OPEN: a flat 64 KiB of RAM with no ROM and no
mirroring (notes/assumptions/1.md), every opcode but HLT implemented (2.md), SENTINEL 0xFF (4.md); the rest are the
spec's defaults (R10, R273). -/
def MachineConfig.atReset : MachineConfig where
  romSize := 0
  ramSize := 0x10000
  romWriteable := false
  ramMirrored := false
  sentinel := 0xFF
  unimplemented := [0x76]
  fallbackLens := []
  intClearsIe := false
  diagEnabled := false
  diagVector := 0x0005
  diagPrintC := 0x09

end Sys2Proof
end

