-- ==== Sys2Proof/WellFormed.lean ====
section
/-! DEFINITION. What is well formed: a configuration (R11, R70, R72, R231), an interrupt vector (R312) and an
instruction. The host's set-up calls refuse an ill-formed configuration (BadConfig, R305). -/

namespace Sys2Proof

/-- Every term of `Instr` is well formed: each operand has exactly the width its encoding gives it (R100, R107), so
the type leaves nothing to check. -/
def Instr.wf (_ : Instr) : Bool := true

/-- IMPL_MIN, the opcodes the source shows executing (R11). -/
def implMin : List Byte :=
  [0x3E, 0x06, 0x04, 0xC3, 0xCD, 0xC6, 0xC9] ++
  [0x09, 0x19, 0x29, 0x39] ++
  [0xC5, 0xD5, 0xE5, 0xF5, 0xC1, 0xD1, 0xE1, 0xF1] ++
  [0xC0, 0xC8, 0xD0, 0xD8, 0xE0, 0xE8, 0xF0, 0xF8] ++
  [0xC2, 0xCA, 0xD2, 0xDA, 0xE2, 0xEA, 0xF2, 0xFA] ++
  [0xC4, 0xCC, 0xD4, 0xDC, 0xE4, 0xEC, 0xF4, 0xFC] ++
  [0xDB, 0xD3, 0xFB]

/-- The numbers rise strictly: the canonical form of the model's sets and maps. -/
def rising : List Nat → Bool
  | [] => true
  | [_] => true
  | x :: y :: rest => decide (x < y) && rising (y :: rest)

/-- `1 <= TOTAL <= 0x10000` (R70). -/
def MachineConfig.sizeOk (g : MachineConfig) : Bool :=
  decide (1 ≤ g.romSize + g.ramSize) && decide (g.romSize + g.ramSize ≤ 0x10000)

/-- When RAM_MIRRORED is true, `RAM_SIZE >= 1` (R70). -/
def MachineConfig.mirrorOk (g : MachineConfig) : Bool :=
  !g.ramMirrored || decide (1 ≤ g.ramSize)

/-- SENTINEL is not 0x00 (R72). -/
def MachineConfig.sentinelOk (g : MachineConfig) : Bool := g.sentinel != 0

/-- IMPL_MIN ⊆ IMPL_SET (R11). -/
def MachineConfig.implOk (g : MachineConfig) : Bool :=
  implMin.all fun op => !g.unimplemented.contains op

/-- DIAG_VECTOR is not 0x0000 (R231). -/
def MachineConfig.vectorOk (g : MachineConfig) : Bool := g.diagVector != 0

/-- The lists that stand for IMPL_SET and FALLBACK_LEN are in canonical form (notes/assumptions/32.md). -/
def MachineConfig.listsOk (g : MachineConfig) : Bool :=
  rising (g.unimplemented.map (·.toNat)) && rising (g.fallbackLens.map (·.1.toNat))

/-- A configuration the spec admits; any other is BadConfig (R305). -/
def MachineConfig.valid (g : MachineConfig) : Bool :=
  g.sizeOk && g.mirrorOk && g.sentinelOk && g.implOk && g.vectorOk && g.listsOk

/-- The vector numbers `interrupt` admits, 0 to 7 (R312). -/
def vectorInRange (n : Int) : Bool := decide (0 ≤ n) && decide (n ≤ 7)

end Sys2Proof
end

