-- ==== Sys2Proof/Decode.lean ====
section
/-! DEFINITION. Decoding, total on any bytes: the opcode map of R108 read by its two nibbles, lengths by R109,
immediates by R107; a byte list that ends early is rejected by name. After it the encoder, from the same tables. The
map is the Intel 8080's, PRESUMED by the spec's decision D2 (notes/assumptions/11.md). -/

namespace Sys2Proof

/-- Why a list of bytes is no instruction. No opcode byte is rejected: every byte value is an instruction (R113). -/
inductive DecodeError
  /-- There is no opcode byte. -/
  | noOpcode
  /-- The opcode byte `op` is there and an operand byte of its format (R100) is not. -/
  | operandMissing (op : Byte)
  deriving DecidableEq, Repr

/-- A 16-bit immediate, "low byte first, high byte second" (R81, R107). -/
def immWord (low high : Byte) : Word := BitVec.ofNat 16 (high.toNat * 256 + low.toNat)

/-- The low byte of a word: byte 1 of an encoded immediate (R107). -/
def immLow (w : Word) : Byte := w.extractLsb' 0 8

/-- The high byte of a word: byte 2 of an encoded immediate (R107). -/
def immHigh (w : Word) : Byte := w.extractLsb' 8 8

/-- The 3-byte opcodes of R109: LXI; SHLD, LHLD, STA, LDA; JMP and Jcc; CALL and Ccc; the aliases. -/
def threeByteOpcodes : List Byte :=
  [0x01, 0x11, 0x21, 0x31] ++ [0x22, 0x2A, 0x32, 0x3A] ++
  [0xC3] ++ [0xC2, 0xCA, 0xD2, 0xDA, 0xE2, 0xEA, 0xF2, 0xFA] ++
  [0xCD] ++ [0xC4, 0xCC, 0xD4, 0xDC, 0xE4, 0xEC, 0xF4, 0xFC] ++
  [0xCB, 0xDD, 0xED, 0xFD]

/-- The 2-byte opcodes of R109: MVI; the eight ALU-immediate instructions; IN and OUT. -/
def twoByteOpcodes : List Byte :=
  [0x06, 0x0E, 0x16, 0x1E, 0x26, 0x2E, 0x36, 0x3E] ++
  [0xC6, 0xCE, 0xD6, 0xDE, 0xE6, 0xEE, 0xF6, 0xFE] ++ [0xDB, 0xD3]

/-- The length of an instruction, "a function of its opcode byte alone" (R109). -/
def opcodeLen (op : Byte) : InstrLen :=
  if threeByteOpcodes.contains op then .three
  else if twoByteOpcodes.contains op then .two
  else .one

/-- The sixteen entries of a line of R108, chosen by a nibble. -/
def pickNibble {α : Type} (n : BitVec 4) (x0 x1 x2 x3 x4 x5 x6 x7 x8 x9 xA xB xC xD xE xF : α) : α :=
  match n.toNat with
  | 0 => x0 | 1 => x1 | 2 => x2 | 3 => x3 | 4 => x4 | 5 => x5 | 6 => x6 | 7 => x7
  | 8 => x8 | 9 => x9 | 10 => xA | 11 => xB | 12 => xC | 13 => xD | 14 => xE | _ => xF

/-- Line 0x of R108, by the low nibble `n`; `d8` is byte 1 and `d16` is bytes 1 and 2. -/
def opcodeLine0 (n : BitVec 4) (d8 : Byte) (d16 : Word) : Instr :=
  pickNibble n
    .nop (.lxiB d16) .staxB .inxB .inrB .dcrB (.mviB d8) .rlc
    .nop08 .dadB .ldaxB .dcxB .inrC .dcrC (.mviC d8) .rrc

/-- Line 1x of R108, by the low nibble `n`; `d8` is byte 1 and `d16` is bytes 1 and 2. -/
def opcodeLine1 (n : BitVec 4) (d8 : Byte) (d16 : Word) : Instr :=
  pickNibble n
    .nop10 (.lxiD d16) .staxD .inxD .inrD .dcrD (.mviD d8) .ral
    .nop18 .dadD .ldaxD .dcxD .inrE .dcrE (.mviE d8) .rar

/-- Line 2x of R108, by the low nibble `n`; `d8` is byte 1 and `d16` is bytes 1 and 2. -/
def opcodeLine2 (n : BitVec 4) (d8 : Byte) (d16 : Word) : Instr :=
  pickNibble n
    .nop20 (.lxiH d16) (.shld d16) .inxH .inrH .dcrH (.mviH d8) .daa
    .nop28 .dadH (.lhld d16) .dcxH .inrL .dcrL (.mviL d8) .cma

/-- Line 3x of R108, by the low nibble `n`; `d8` is byte 1 and `d16` is bytes 1 and 2. -/
def opcodeLine3 (n : BitVec 4) (d8 : Byte) (d16 : Word) : Instr :=
  pickNibble n
    .nop30 (.lxiSp d16) (.sta d16) .inxSp .inrM .dcrM (.mviM d8) .stc
    .nop38 .dadSp (.lda d16) .dcxSp .inrA .dcrA (.mviA d8) .cmc

/-- Line 4x of R108, by the low nibble `n`. -/
def opcodeLine4 (n : BitVec 4) : Instr :=
  pickNibble n
    .movBB .movBC .movBD .movBE .movBH .movBL .movBM .movBA
    .movCB .movCC .movCD .movCE .movCH .movCL .movCM .movCA

/-- Line 5x of R108, by the low nibble `n`. -/
def opcodeLine5 (n : BitVec 4) : Instr :=
  pickNibble n
    .movDB .movDC .movDD .movDE .movDH .movDL .movDM .movDA
    .movEB .movEC .movED .movEE .movEH .movEL .movEM .movEA

/-- Line 6x of R108, by the low nibble `n`. -/
def opcodeLine6 (n : BitVec 4) : Instr :=
  pickNibble n
    .movHB .movHC .movHD .movHE .movHH .movHL .movHM .movHA
    .movLB .movLC .movLD .movLE .movLH .movLL .movLM .movLA

/-- Line 7x of R108, by the low nibble `n`. -/
def opcodeLine7 (n : BitVec 4) : Instr :=
  pickNibble n
    .movMB .movMC .movMD .movME .movMH .movML .hlt .movMA
    .movAB .movAC .movAD .movAE .movAH .movAL .movAM .movAA

/-- Line 8x of R108, by the low nibble `n`. -/
def opcodeLine8 (n : BitVec 4) : Instr :=
  pickNibble n
    .addB .addC .addD .addE .addH .addL .addM .addA
    .adcB .adcC .adcD .adcE .adcH .adcL .adcM .adcA

/-- Line 9x of R108, by the low nibble `n`. -/
def opcodeLine9 (n : BitVec 4) : Instr :=
  pickNibble n
    .subB .subC .subD .subE .subH .subL .subM .subA
    .sbbB .sbbC .sbbD .sbbE .sbbH .sbbL .sbbM .sbbA

/-- Line Ax of R108, by the low nibble `n`. -/
def opcodeLineA (n : BitVec 4) : Instr :=
  pickNibble n
    .anaB .anaC .anaD .anaE .anaH .anaL .anaM .anaA
    .xraB .xraC .xraD .xraE .xraH .xraL .xraM .xraA

/-- Line Bx of R108, by the low nibble `n`. -/
def opcodeLineB (n : BitVec 4) : Instr :=
  pickNibble n
    .oraB .oraC .oraD .oraE .oraH .oraL .oraM .oraA
    .cmpB .cmpC .cmpD .cmpE .cmpH .cmpL .cmpM .cmpA

/-- Line Cx of R108, by the low nibble `n`; `d8` is byte 1 and `d16` is bytes 1 and 2. -/
def opcodeLineC (n : BitVec 4) (d8 : Byte) (d16 : Word) : Instr :=
  pickNibble n
    .rnz .popB (.jnz d16) (.jmp d16) (.cnz d16) .pushB (.adi d8) .rst0
    .rz .ret (.jz d16) (.jmpCB d16) (.cz d16) (.call d16) (.aci d8) .rst1

/-- Line Dx of R108, by the low nibble `n`; `d8` is byte 1 and `d16` is bytes 1 and 2. -/
def opcodeLineD (n : BitVec 4) (d8 : Byte) (d16 : Word) : Instr :=
  pickNibble n
    .rnc .popD (.jnc d16) (.outPort d8) (.cnc d16) .pushD (.sui d8) .rst2
    .rc .retD9 (.jc d16) (.inPort d8) (.cc d16) (.callDD d16) (.sbi d8) .rst3

/-- Line Ex of R108, by the low nibble `n`; `d8` is byte 1 and `d16` is bytes 1 and 2. -/
def opcodeLineE (n : BitVec 4) (d8 : Byte) (d16 : Word) : Instr :=
  pickNibble n
    .rpo .popH (.jpo d16) .xthl (.cpo d16) .pushH (.ani d8) .rst4
    .rpe .pchl (.jpe d16) .xchg (.cpe d16) (.callED d16) (.xri d8) .rst5

/-- Line Fx of R108, by the low nibble `n`; `d8` is byte 1 and `d16` is bytes 1 and 2. -/
def opcodeLineF (n : BitVec 4) (d8 : Byte) (d16 : Word) : Instr :=
  pickNibble n
    .rp .popPsw (.jp d16) .di (.cp d16) .pushPsw (.ori d8) .rst6
    .rm .sphl (.jm d16) .ei (.cm d16) (.callFD d16) (.cpi d8) .rst7

/-- The instruction an opcode byte and its two following bytes encode (R108); the bytes its format does not have are
not looked at. Total: every opcode byte is some instruction (R113). -/
def decodeOp (op b1 b2 : Byte) : Instr :=
  let n := op.extractLsb' 0 4
  let d16 := immWord b1 b2
  pickNibble (op.extractLsb' 4 4)
    (opcodeLine0 n b1 d16) (opcodeLine1 n b1 d16) (opcodeLine2 n b1 d16) (opcodeLine3 n b1 d16)
    (opcodeLine4 n) (opcodeLine5 n) (opcodeLine6 n) (opcodeLine7 n)
    (opcodeLine8 n) (opcodeLine9 n) (opcodeLineA n) (opcodeLineB n)
    (opcodeLineC n b1 d16) (opcodeLineD n b1 d16) (opcodeLineE n b1 d16) (opcodeLineF n b1 d16)

/-- Decode one instruction at the head of a list of bytes: it and the bytes after it, or why there is none. -/
def decode (bytes : List Byte) : Except DecodeError (Instr × List Byte) :=
  match bytes with
  | [] => .error .noOpcode
  | op :: rest =>
    match opcodeLen op, rest with
    | .one, _ => .ok (decodeOp op 0 0, rest)
    | .two, b1 :: rest => .ok (decodeOp op b1 0, rest)
    | .three, b1 :: b2 :: rest => .ok (decodeOp op b1 b2, rest)
    | _, _ => .error (.operandMissing op)

/-- The instruction whose bits are `w`, numbered as spec/opcode_table.json numbers them (the first byte is bits 7..0,
the second bits 15..8, the third bits 23..16); the bits from `nbits` up are 0. -/
def decodeTableWord (nbits w : Nat) : Option Instr :=
  let v := w % 2 ^ nbits
  match decode [BitVec.ofNat 8 v, BitVec.ofNat 8 (v / 0x100), BitVec.ofNat 8 (v / 0x10000)] with
  | .ok (i, _) => some i
  | .error _ => none

/-- The bytes of an instruction: the opcode byte of R108 and the operand bytes of R100 and R107. -/
def encode : Instr → List Byte
  | .lxiB d16 => [0x01, immLow d16, immHigh d16]
  | .lxiD d16 => [0x11, immLow d16, immHigh d16]
  | .lxiH d16 => [0x21, immLow d16, immHigh d16]
  | .shld d16 => [0x22, immLow d16, immHigh d16]
  | .lhld d16 => [0x2A, immLow d16, immHigh d16]
  | .lxiSp d16 => [0x31, immLow d16, immHigh d16]
  | .sta d16 => [0x32, immLow d16, immHigh d16]
  | .lda d16 => [0x3A, immLow d16, immHigh d16]
  | .jnz d16 => [0xC2, immLow d16, immHigh d16]
  | .jmp d16 => [0xC3, immLow d16, immHigh d16]
  | .cnz d16 => [0xC4, immLow d16, immHigh d16]
  | .jz d16 => [0xCA, immLow d16, immHigh d16]
  | .jmpCB d16 => [0xCB, immLow d16, immHigh d16]
  | .cz d16 => [0xCC, immLow d16, immHigh d16]
  | .call d16 => [0xCD, immLow d16, immHigh d16]
  | .jnc d16 => [0xD2, immLow d16, immHigh d16]
  | .cnc d16 => [0xD4, immLow d16, immHigh d16]
  | .jc d16 => [0xDA, immLow d16, immHigh d16]
  | .cc d16 => [0xDC, immLow d16, immHigh d16]
  | .callDD d16 => [0xDD, immLow d16, immHigh d16]
  | .jpo d16 => [0xE2, immLow d16, immHigh d16]
  | .cpo d16 => [0xE4, immLow d16, immHigh d16]
  | .jpe d16 => [0xEA, immLow d16, immHigh d16]
  | .cpe d16 => [0xEC, immLow d16, immHigh d16]
  | .callED d16 => [0xED, immLow d16, immHigh d16]
  | .jp d16 => [0xF2, immLow d16, immHigh d16]
  | .cp d16 => [0xF4, immLow d16, immHigh d16]
  | .jm d16 => [0xFA, immLow d16, immHigh d16]
  | .cm d16 => [0xFC, immLow d16, immHigh d16]
  | .callFD d16 => [0xFD, immLow d16, immHigh d16]
  | .mviB d8 => [0x06, d8]
  | .mviC d8 => [0x0E, d8]
  | .mviD d8 => [0x16, d8]
  | .mviE d8 => [0x1E, d8]
  | .mviH d8 => [0x26, d8]
  | .mviL d8 => [0x2E, d8]
  | .mviM d8 => [0x36, d8]
  | .mviA d8 => [0x3E, d8]
  | .adi d8 => [0xC6, d8]
  | .aci d8 => [0xCE, d8]
  | .outPort d8 => [0xD3, d8]
  | .sui d8 => [0xD6, d8]
  | .inPort d8 => [0xDB, d8]
  | .sbi d8 => [0xDE, d8]
  | .ani d8 => [0xE6, d8]
  | .xri d8 => [0xEE, d8]
  | .ori d8 => [0xF6, d8]
  | .cpi d8 => [0xFE, d8]
  | .nop => [0x00]
  | .staxB => [0x02]
  | .inxB => [0x03]
  | .inrB => [0x04]
  | .dcrB => [0x05]
  | .rlc => [0x07]
  | .nop08 => [0x08]
  | .dadB => [0x09]
  | .ldaxB => [0x0A]
  | .dcxB => [0x0B]
  | .inrC => [0x0C]
  | .dcrC => [0x0D]
  | .rrc => [0x0F]
  | .nop10 => [0x10]
  | .staxD => [0x12]
  | .inxD => [0x13]
  | .inrD => [0x14]
  | .dcrD => [0x15]
  | .ral => [0x17]
  | .nop18 => [0x18]
  | .dadD => [0x19]
  | .ldaxD => [0x1A]
  | .dcxD => [0x1B]
  | .inrE => [0x1C]
  | .dcrE => [0x1D]
  | .rar => [0x1F]
  | .nop20 => [0x20]
  | .inxH => [0x23]
  | .inrH => [0x24]
  | .dcrH => [0x25]
  | .daa => [0x27]
  | .nop28 => [0x28]
  | .dadH => [0x29]
  | .dcxH => [0x2B]
  | .inrL => [0x2C]
  | .dcrL => [0x2D]
  | .cma => [0x2F]
  | .nop30 => [0x30]
  | .inxSp => [0x33]
  | .inrM => [0x34]
  | .dcrM => [0x35]
  | .stc => [0x37]
  | .nop38 => [0x38]
  | .dadSp => [0x39]
  | .dcxSp => [0x3B]
  | .inrA => [0x3C]
  | .dcrA => [0x3D]
  | .cmc => [0x3F]
  | .movBB => [0x40]
  | .movBC => [0x41]
  | .movBD => [0x42]
  | .movBE => [0x43]
  | .movBH => [0x44]
  | .movBL => [0x45]
  | .movBM => [0x46]
  | .movBA => [0x47]
  | .movCB => [0x48]
  | .movCC => [0x49]
  | .movCD => [0x4A]
  | .movCE => [0x4B]
  | .movCH => [0x4C]
  | .movCL => [0x4D]
  | .movCM => [0x4E]
  | .movCA => [0x4F]
  | .movDB => [0x50]
  | .movDC => [0x51]
  | .movDD => [0x52]
  | .movDE => [0x53]
  | .movDH => [0x54]
  | .movDL => [0x55]
  | .movDM => [0x56]
  | .movDA => [0x57]
  | .movEB => [0x58]
  | .movEC => [0x59]
  | .movED => [0x5A]
  | .movEE => [0x5B]
  | .movEH => [0x5C]
  | .movEL => [0x5D]
  | .movEM => [0x5E]
  | .movEA => [0x5F]
  | .movHB => [0x60]
  | .movHC => [0x61]
  | .movHD => [0x62]
  | .movHE => [0x63]
  | .movHH => [0x64]
  | .movHL => [0x65]
  | .movHM => [0x66]
  | .movHA => [0x67]
  | .movLB => [0x68]
  | .movLC => [0x69]
  | .movLD => [0x6A]
  | .movLE => [0x6B]
  | .movLH => [0x6C]
  | .movLL => [0x6D]
  | .movLM => [0x6E]
  | .movLA => [0x6F]
  | .movMB => [0x70]
  | .movMC => [0x71]
  | .movMD => [0x72]
  | .movME => [0x73]
  | .movMH => [0x74]
  | .movML => [0x75]
  | .hlt => [0x76]
  | .movMA => [0x77]
  | .movAB => [0x78]
  | .movAC => [0x79]
  | .movAD => [0x7A]
  | .movAE => [0x7B]
  | .movAH => [0x7C]
  | .movAL => [0x7D]
  | .movAM => [0x7E]
  | .movAA => [0x7F]
  | .addB => [0x80]
  | .addC => [0x81]
  | .addD => [0x82]
  | .addE => [0x83]
  | .addH => [0x84]
  | .addL => [0x85]
  | .addM => [0x86]
  | .addA => [0x87]
  | .adcB => [0x88]
  | .adcC => [0x89]
  | .adcD => [0x8A]
  | .adcE => [0x8B]
  | .adcH => [0x8C]
  | .adcL => [0x8D]
  | .adcM => [0x8E]
  | .adcA => [0x8F]
  | .subB => [0x90]
  | .subC => [0x91]
  | .subD => [0x92]
  | .subE => [0x93]
  | .subH => [0x94]
  | .subL => [0x95]
  | .subM => [0x96]
  | .subA => [0x97]
  | .sbbB => [0x98]
  | .sbbC => [0x99]
  | .sbbD => [0x9A]
  | .sbbE => [0x9B]
  | .sbbH => [0x9C]
  | .sbbL => [0x9D]
  | .sbbM => [0x9E]
  | .sbbA => [0x9F]
  | .anaB => [0xA0]
  | .anaC => [0xA1]
  | .anaD => [0xA2]
  | .anaE => [0xA3]
  | .anaH => [0xA4]
  | .anaL => [0xA5]
  | .anaM => [0xA6]
  | .anaA => [0xA7]
  | .xraB => [0xA8]
  | .xraC => [0xA9]
  | .xraD => [0xAA]
  | .xraE => [0xAB]
  | .xraH => [0xAC]
  | .xraL => [0xAD]
  | .xraM => [0xAE]
  | .xraA => [0xAF]
  | .oraB => [0xB0]
  | .oraC => [0xB1]
  | .oraD => [0xB2]
  | .oraE => [0xB3]
  | .oraH => [0xB4]
  | .oraL => [0xB5]
  | .oraM => [0xB6]
  | .oraA => [0xB7]
  | .cmpB => [0xB8]
  | .cmpC => [0xB9]
  | .cmpD => [0xBA]
  | .cmpE => [0xBB]
  | .cmpH => [0xBC]
  | .cmpL => [0xBD]
  | .cmpM => [0xBE]
  | .cmpA => [0xBF]
  | .rnz => [0xC0]
  | .popB => [0xC1]
  | .pushB => [0xC5]
  | .rst0 => [0xC7]
  | .rz => [0xC8]
  | .ret => [0xC9]
  | .rst1 => [0xCF]
  | .rnc => [0xD0]
  | .popD => [0xD1]
  | .pushD => [0xD5]
  | .rst2 => [0xD7]
  | .rc => [0xD8]
  | .retD9 => [0xD9]
  | .rst3 => [0xDF]
  | .rpo => [0xE0]
  | .popH => [0xE1]
  | .xthl => [0xE3]
  | .pushH => [0xE5]
  | .rst4 => [0xE7]
  | .rpe => [0xE8]
  | .pchl => [0xE9]
  | .xchg => [0xEB]
  | .rst5 => [0xEF]
  | .rp => [0xF0]
  | .popPsw => [0xF1]
  | .di => [0xF3]
  | .pushPsw => [0xF5]
  | .rst6 => [0xF7]
  | .rm => [0xF8]
  | .sphl => [0xF9]
  | .ei => [0xFB]
  | .rst7 => [0xFF]

/-- The opcode byte of an instruction, "the first byte" (R9). -/
def Instr.opcode (i : Instr) : Byte := (encode i).headD 0

/-- An instruction length in bytes (R9). -/
def InstrLen.bytes : InstrLen → Nat
  | .one => 1
  | .two => 2
  | .three => 3

/-- The 3-bit register codes of R103. -/
def Reg8.code : Reg8 → BitVec 3
  | .b => 0b000 | .c => 0b001 | .d => 0b010 | .e => 0b011 | .h => 0b100 | .l => 0b101 | .a => 0b111

/-- The 3-bit operand codes of R103: a register's, or 110 for M. -/
def Operand8.code : Operand8 → BitVec 3
  | .reg r => r.code
  | .m => 0b110

/-- The 2-bit pair codes of R104, SP form. -/
def Pair.code : Pair → BitVec 2
  | .bc => 0b00 | .de => 0b01 | .hl => 0b10 | .sp => 0b11

/-- The 2-bit pair codes of R104 for PUSH and POP; 11 is PSW. -/
def StackPair.code : StackPair → BitVec 2
  | .bc => 0b00 | .de => 0b01 | .hl => 0b10

/-- The bit X of LDAX and STAX (R102). -/
def IndexPair.code : IndexPair → BitVec 1
  | .bc => 0b0 | .de => 0b1

/-- The 3-bit condition codes of R105. -/
def Cond.code : Cond → BitVec 3
  | .nz => 0b000 | .z => 0b001 | .nc => 0b010 | .c => 0b011
  | .po => 0b100 | .pe => 0b101 | .p => 0b110 | .m => 0b111

/-- The 3-bit ALU operation codes of R106. -/
def AluOp.code : AluOp → BitVec 3
  | .add => 0b000 | .adc => 0b001 | .sub => 0b010 | .sbb => 0b011
  | .ana => 0b100 | .xra => 0b101 | .ora => 0b110 | .cmp => 0b111

end Sys2Proof
end

