-- ==== Sys2Proof/Machine/State.lean ====
section
/-! DEFINITION. The state of the machine as plain data: the record of R53 (CPU State, engine state, configuration,
storage, run status, trace), and five fields of the model's own that hold what the host will do and the
counters of the free values. With it the reasons a transaction can end (R300 to R305) and the state right after reset (R54, R55). -/

namespace Sys2Proof.Machine

/-- The condition-code flags (R35): Zero, Sign, Parity, Carry, Auxiliary Carry. -/
structure Flags where
  /-- Z (R36). -/
  z : Bool
  /-- S (R37). -/
  s : Bool
  /-- P, true for an even number of 1 bits (R38). -/
  p : Bool
  /-- CY (R39). -/
  cy : Bool
  /-- AC, a stored bit that only POP PSW writes (R40). -/
  ac : Bool
  deriving DecidableEq, Repr

/-- The two kinds of breakpoint (R47, R320). -/
inductive BreakpointKind
  | memoryWrite
  | opcodeReached
  deriving DecidableEq, Repr

/-- A fatal fault with the information it records (R301 to R303): issued address, folded address, written byte. -/
inductive FaultInfo
  | memReadOutOfBounds (issued : Word) (folded : Nat)
  | memWriteOutOfBounds (issued : Word) (folded : Nat) (value : Byte)
  | romWriteProtected (issued : Word) (folded : Nat) (value : Byte)
  deriving DecidableEq, Repr

/-- A refusal of R305 with its information. -/
inductive RefusalInfo
  | haltUnmodelled (pc : Word)
  | diagUnterminated (de : Word)
  | badVector (n : Int)
  | badConfig
  | loadOutOfBounds (atAddress : Nat) (length : Nat)
  deriving DecidableEq, Repr

/-- The run status RUN (R51). -/
inductive RunStatus
  | running
  | faulted (f : FaultInfo)
  | refused (r : RefusalInfo)
  | exited
  deriving DecidableEq, Repr

/-- An event of the trace (R53): what the host can see happen. -/
inductive Event
  /-- The core stored `value`; the address is the issued one (R77). -/
  | memWrite (issued : Word) (value : Byte)
  /-- The in-callback answered `value` for `port` (R260). -/
  | ioIn (port : Byte) (value : Byte)
  /-- The out-callback received `value` for `port` (R261). -/
  | ioOut (port : Byte) (value : Byte)
  /-- The breakpoint callback was called (R320). -/
  | breakpoint (kind : BreakpointKind) (address : Word) (value : Byte)
  /-- The diagnostic hook printed a character (R230). -/
  | console (char : Byte)
  /-- The diagnostic hook emitted its placeholder line (R230). -/
  | consoleTrace (c : Byte)
  /-- The fallback reported an unimplemented opcode (R272). -/
  | unimplemented (pc : Word) (op : Byte)
  deriving DecidableEq, Repr

/-- What the host may call between two transactions (R19, R94, R335): the moves of the model's queue `hostCalls`. -/
inductive HostCall
  | step
  | interrupt (vectorNumber : Int)
  | reset
  | init (pcStart : Word)
  | addBreakpoint (kind : BreakpointKind) (address : Word)
  | setCallbackIn (present : Bool)
  | setCallbackOut (present : Bool)
  | setCallbackBreakpoint (present : Bool)
  | load (bytes : List Byte) (atAddress : Nat)
  | write (address : Word) (value : Byte)
  | readMemory (address : Word)
  deriving DecidableEq, Repr

/-- The storage STORE (R50), sparse: addresses strictly rising, and no entry that holds SENTINEL, which is what an
unlisted address reads as (R72). -/
abbrev Memory := List Host.Cell

/-- The complete machine state (R53). -/
structure State where
  /-- A, the accumulator (R30). -/
  a : Byte
  /-- B (R30). -/
  b : Byte
  /-- C (R30). -/
  c : Byte
  /-- D (R30). -/
  d : Byte
  /-- E (R30). -/
  e : Byte
  /-- H (R30). -/
  h : Byte
  /-- L (R30). -/
  l : Byte
  /-- SP (R33). -/
  sp : Word
  /-- PC (R34). -/
  pc : Word
  /-- Z, S, P, CY, AC (R35). -/
  flags : Flags
  /-- IE (R44). -/
  ie : Bool
  /-- NSTEPS (R46). -/
  nsteps : Nat
  /-- BP_WRITE (R47), strictly rising. -/
  bpWrite : List Word
  /-- BP_OPCODE (R47), strictly rising. -/
  bpOpcode : List Word
  /-- CB_IN is present (R48). -/
  cbIn : Bool
  /-- CB_OUT is present (R48). -/
  cbOut : Bool
  /-- CB_BKPT is present (R48). -/
  cbBkpt : Bool
  /-- The parameters of R10, fixed for the run (R49, R50). -/
  cfg : MachineConfig
  /-- STORE (R50). -/
  store : Memory
  /-- RUN (R51). -/
  run : RunStatus
  /-- The trace of events (R53), the newest first. -/
  trace : List Event
  /-- The model's own: the answers CB_IN will give, the oldest first (notes/assumptions/8.md). -/
  inAnswers : List Byte
  /-- The model's own: how many free values IN has drawn (notes/assumptions/8.md). -/
  draws : Nat
  /-- The model's own: how many free values OpcodeReached notifications have taken (notes/assumptions/8.md). -/
  notices : Nat
  /-- The model's own: the addresses the breakpoint callback will read (R335), one list for each of its next calls, the
  oldest first; when empty it reads nothing (notes/assumptions/35.md). -/
  bpReads : List (List Word)
  /-- The model's own: what the host calls next; when empty it calls step() (notes/assumptions/9.md). -/
  hostCalls : List HostCall
  deriving DecidableEq, Repr

/-- A fatal fault (R300): the transaction ends, and `final` is the state it leaves, with RUN = Faulted, PC at the
faulting instruction (the new PC when an opcode callback's read faults, notes/assumptions/35.md) and every effect made
before the faulting access kept (R307). Safe: the spec's own outcome. -/
inductive Fault
  /-- A read at `issued` folds to `folded`, which is not below TOTAL (R301); raised by every read: fetches, data reads,
  stack reads, console string reads, readMemory() and the reads of a breakpoint callback (R335). Safe. -/
  | memReadOutOfBounds (issued : Word) (folded : Nat) (final : State)
  /-- A write of `value` at `issued` folds to `folded`, which is not below TOTAL (R302); raised by every data write,
  stack write, interrupt entry and host write. Safe. -/
  | memWriteOutOfBounds (issued : Word) (folded : Nat) (value : Byte) (final : State)
  /-- A write of `value` at `issued` folds into ROM while ROM is not writeable (R303); raised by the same writes.
  Safe. -/
  | romWriteProtected (issued : Word) (folded : Nat) (value : Byte) (final : State)
  deriving DecidableEq, Repr

/-- A refusal (R305): the model gives no meaning to what follows. `final` is the state with RUN = Refused. -/
inductive Refusal
  /-- An arm of exec that has no meaning yet; no arm is one in this model. Safe. -/
  | notModelled (mnemonic : String)
  /-- HLT with 0x76 in IMPL_SET (R264, D6). Raised by HLT. Safe: "toward unprovable". -/
  | haltUnmodelled (pc : Word) (final : State)
  /-- A console string with no terminator in 65536 bytes (R230, D21). Raised by CALL with the hook on. Safe. -/
  | diagUnterminated (de : Word) (final : State)
  /-- interrupt(n) with n outside 0 to 7 (R312, D17). Raised by interrupt entry. Safe. -/
  | badVector (n : Int) (final : State)
  /-- A configuration the spec does not admit (R305, D24). Raised by configure and init. Safe. -/
  | badConfig (final : State)
  /-- A load() that does not fit below TOTAL (R73, D42). Raised by load. Safe. -/
  | loadOutOfBounds (atAddress : Nat) (length : Nat) (final : State)
  deriving DecidableEq, Repr

/-- The machine right after construction, `configure` and `init`: the values of R54, R55 and R340. The spec leaves
PC_START (notes/assumptions/5.md) and the configuration (1.md to 4.md) open. -/
def State.reset : State where
  a := 0x00
  b := 0x00
  c := 0x00
  d := 0x00
  e := 0x00
  h := 0x00
  l := 0x00
  sp := 0x0000
  pc := 0x0000
  flags := { z := false, s := false, p := false, cy := false, ac := false }
  ie := false
  nsteps := 0
  bpWrite := []
  bpOpcode := []
  cbIn := false
  cbOut := false
  cbBkpt := false
  cfg := MachineConfig.atReset
  store := []
  run := .running
  trace := []
  inAnswers := []
  draws := 0
  notices := 0
  bpReads := []
  hostCalls := []

end Sys2Proof.Machine
end

