-- ==== Sys2Proof/Machine/Memory.lean ====
section
/-! DEFINITION. Plain-data operations on the storage list and on the breakpoint sets: one canonical form, kept by every
operation. What an unlisted address reads as is SENTINEL (R72), given here as an argument. -/

namespace Sys2Proof.Machine

/-- The byte at a storage index; an unlisted index reads as SENTINEL (R72). -/
def readByte (sentinel : Byte) : Memory → Nat → Byte
  | [], _ => sentinel
  | (k, v) :: rest, i => if k = i then v else readByte sentinel rest i

/-- The storage without an entry at index `i`. -/
def dropByte (m : Memory) (i : Nat) : Memory := m.filter fun cell => cell.1 != i

/-- The storage with an entry put in at its place in the rising order. -/
def insertByte (i : Nat) (v : Byte) : Memory → Memory
  | [] => [(i, v)]
  | (k, w) :: rest => if i < k then (i, v) :: (k, w) :: rest else (k, w) :: insertByte i v rest

/-- `STORE[i] <- v`: writing what an unlisted index reads as removes the entry. -/
def writeByte (sentinel : Byte) (m : Memory) (i : Nat) (v : Byte) : Memory :=
  if v = sentinel then dropByte m i else insertByte i v (dropByte m i)

/-- Write bytes at rising indexes: `STORE[at + k] <- bytes[k]` for each k (R73). -/
def writeBytes (sentinel : Byte) (m : Memory) (i : Nat) : List Byte → Memory
  | [] => m
  | v :: rest => writeBytes sentinel (writeByte sentinel m i v) (i + 1) rest

/-- The canonical form: indexes strictly rising, and no entry that holds SENTINEL. -/
def Memory.wf (sentinel : Byte) (m : Memory) : Bool :=
  rising (m.map (·.1)) && m.all fun cell => cell.2 != sentinel

/-- Every listed index is below TOTAL: the storage is an array of TOTAL bytes (R50). -/
def Memory.within (total : Nat) (m : Memory) : Bool := m.all fun cell => decide (cell.1 < total)

/-- Add an address to a set held as a strictly rising list (R47). -/
def insertAddress (x : Word) : List Word → List Word
  | [] => [x]
  | y :: rest =>
    if x < y then x :: y :: rest
    else if x = y then y :: rest
    else y :: insertAddress x rest

end Sys2Proof.Machine
end

