-- ==== Sys2Proof/Machine/Flags.lean ====
section
/-! DEFINITION. Every flag computation and every byte computation of the ALU (R17, R42, R105, R150, R166, R180,
R189 to R192), on plain values. -/

namespace Sys2Proof.Machine

/-- The number of 1 bits of a byte. -/
def bitCount (v : Byte) : Nat :=
  (v.getLsbD 0).toNat + (v.getLsbD 1).toNat + (v.getLsbD 2).toNat + (v.getLsbD 3).toNat +
  (v.getLsbD 4).toNat + (v.getLsbD 5).toNat + (v.getLsbD 6).toNat + (v.getLsbD 7).toNat

/-- "Zero: set when low 8 bits of result == 0" (R17). -/
def zf (v : Byte) : Bool := v == 0

/-- "Sign: set when bit 7 of low byte is set" (R17). -/
def sf (v : Byte) : Bool := v.getLsbD 7

/-- "Parity: set when the low byte has an even number of 1-bits" (R17). -/
def pf (v : Byte) : Bool := bitCount v % 2 == 0

/-- `setZSP` of R17: Z, S and P from a result; CY and AC kept. -/
def setZSP (v : Byte) (f : Flags) : Flags := { f with z := zf v, s := sf v, p := pf v }

/-- `add8` of R150: the sum with a carry in, and whether the 16-bit intermediate exceeds 0xFF. -/
def add8 (x y : Byte) (cin : Bool) : Byte × Bool :=
  let t := BitVec.ofNat 16 (x.toNat + y.toNat + cin.toNat)
  (t.truncate 8, decide (t.toNat > 0xFF))

/-- `sub8` of R150: the difference modulo 2^16 with a borrow in, and whether it exceeds 0xFF, so CY is the borrow
(D43, notes/assumptions/25.md). -/
def sub8 (x y : Byte) (cin : Bool) : Byte × Bool :=
  let t := BitVec.ofInt 16 ((x.toNat : Int) - (y.toNat : Int) - (cin.toNat : Int))
  (t.truncate 8, decide (t.toNat > 0xFF))

/-- DAD's sum (R165): the low 16 bits, and whether the 32-bit intermediate exceeds 0xFFFF. -/
def add16 (x y : Word) : Word × Bool :=
  let t := BitVec.ofNat 32 (x.toNat + y.toNat)
  (t.truncate 16, decide (t.toNat > 0xFFFF))

/-- The correction of DAA and its carry (R166), from A, CY and the stale AC (D10, notes/assumptions/17.md). -/
def daaAdjust (x : Byte) (cy ac : Bool) : Byte × Bool :=
  let low : Byte := if (x &&& 0x0F).toNat > 9 || ac then 0x06 else 0x00
  let high : Byte := if x.toNat > 0x99 || cy then 0x60 else 0x00
  (x + (low ||| high), decide (x.toNat > 0x99) || cy)

/-- RLC (R189): the rotated byte and the bit shifted out. -/
def rlc8 (x : Byte) : Byte × Bool :=
  let b := x.getLsbD 7
  ((x <<< 1) ||| (if b then 0x01 else 0x00), b)

/-- RRC (R190): the rotated byte and the bit shifted out. -/
def rrc8 (x : Byte) : Byte × Bool :=
  let b := x.getLsbD 0
  ((x >>> 1) ||| (if b then 0x80 else 0x00), b)

/-- RAL (R191): CY comes in at bit 0, bit 7 goes out. -/
def ral8 (x : Byte) (cy : Bool) : Byte × Bool :=
  ((x <<< 1) ||| (if cy then 0x01 else 0x00), x.getLsbD 7)

/-- RAR (R192): CY comes in at bit 7, bit 0 goes out. -/
def rar8 (x : Byte) (cy : Bool) : Byte × Bool :=
  ((x >>> 1) ||| (if cy then 0x80 else 0x00), x.getLsbD 0)

/-- One flag as a byte, in bit 0. -/
def flagBit (b : Bool) : Byte := if b then 0x01 else 0x00

/-- `packF` of R42: AC, CY, P, S, Z in bits 4 to 0 and 0 in bits 7:5 (R41; D7, notes/assumptions/14.md). -/
def packF (f : Flags) : Byte :=
  (flagBit f.ac <<< 4) ||| (flagBit f.cy <<< 3) ||| (flagBit f.p <<< 2) ||| (flagBit f.s <<< 1) ||| flagBit f.z

/-- `unpackF` of R42: Z, S, P, CY, AC from bits 0 to 4; bits 7:5 are ignored. -/
def unpackF (v : Byte) : Flags where
  z := v.getLsbD 0
  s := v.getLsbD 1
  p := v.getLsbD 2
  cy := v.getLsbD 3
  ac := v.getLsbD 4

/-- `cond` of R211: the predicates of R105. -/
def condHolds (k : Cond) (f : Flags) : Bool :=
  match k with
  | .nz => !f.z
  | .z => f.z
  | .nc => !f.cy
  | .c => f.cy
  | .po => !f.p
  | .pe => f.p
  | .p => !f.s
  | .m => f.s

end Sys2Proof.Machine
end

