-- ==== Sys2Proof/Machine/Ops.lean ====
section
/-! DEFINITION. The named operations every meaning is written over: the memory primitives with folding, bounds and ROM
protection (R74 to R78), breakpoint notifications (R320 to R323), the end of a step by length or by target (R110), the
stack helpers (R210), dispatch with the fallback (R111, R272), and interrupt entry (R310), the one way the machine
takes an exception, with its return. -/

namespace Sys2Proof.Machine

/-- Go on with the value of a transaction that went well; a fault or a refusal ends it (R300, R306). -/
def andThen {α β : Type} (x : Host.Outcome α Fault Refusal) (k : α → Host.Outcome β Fault Refusal) :
    Host.Outcome β Fault Refusal :=
  match x with
  | .next v => k v
  | .fault f => .fault f
  | .refused r => .refused r

/-- The numeric code of a fault, this spec's names (R301 to R304). -/
def FaultInfo.code : FaultInfo → Nat
  | .memReadOutOfBounds _ _ => 1
  | .memWriteOutOfBounds _ _ _ => 2
  | .romWriteProtected _ _ _ => 3

/-- `raise` of R16 and R300: the transaction ends with RUN = Faulted and everything done before it kept (R307). -/
def raiseFault {α : Type} (i : FaultInfo) (s : State) : Host.Outcome α Fault Refusal :=
  let final := { s with run := .faulted i }
  match i with
  | .memReadOutOfBounds a f => .fault (.memReadOutOfBounds a f final)
  | .memWriteOutOfBounds a f v => .fault (.memWriteOutOfBounds a f v final)
  | .romWriteProtected a f v => .fault (.romWriteProtected a f v final)

/-- `refuse` of R16 and R305: the transaction ends with RUN = Refused. -/
def refuse {α : Type} (i : RefusalInfo) (s : State) : Host.Outcome α Fault Refusal :=
  let final := { s with run := .refused i }
  match i with
  | .haltUnmodelled pc => .refused (.haltUnmodelled pc final)
  | .diagUnterminated de => .refused (.diagUnterminated de final)
  | .badVector n => .refused (.badVector n final)
  | .badConfig => .refused (.badConfig final)
  | .loadOutOfBounds a n => .refused (.loadOutOfBounds a n final)

/-- Record an event; the newest stands first (R53). -/
def emit (e : Event) (s : State) : State := { s with trace := e :: s.trace }

/-! ### Memory -/

/-- `TOTAL = ROM_SIZE + RAM_SIZE` (R70). -/
def totalSize (g : MachineConfig) : Nat := g.romSize + g.ramSize

/-- The loop of R74, with a bound on its turns that a valid configuration never reaches. -/
def foldLoop (total ram : Nat) : Nat → Nat → Nat
  | 0, i => i
  | turns + 1, i => if total ≤ i then foldLoop total ram turns (i - ram) else i

/-- `fold` of R74: "repeatedly subtract RAM size while address ≥ total size", when mirroring is on. The address itself
bounds the turns, since each takes away at least 1 (notes/assumptions/27.md). -/
def fold (g : MachineConfig) (x : Word) : Nat :=
  if g.ramMirrored then foldLoop (totalSize g) g.ramSize x.toNat x.toNat else x.toNat

/-- `MemRead(a, 1)` of R76. It changes nothing. -/
def memRead (x : Word) (s : State) : Host.Outcome Byte Fault Refusal :=
  let f := fold s.cfg x
  if f < totalSize s.cfg then .next (readByte s.cfg.sentinel s.store f)
  else raiseFault (.memReadOutOfBounds x f) s

/-- The reads a breakpoint callback makes while it runs (R335, "read memory"), in order. None changes anything (R60,
R76); the first out of bounds is fatal, and the current step() or interrupt() ends at once (R75, R300, R301). -/
def callbackReads : List Word → State → Host.Outcome State Fault Refusal
  | [], s => .next s
  | x :: rest, s => andThen (memRead x s) fun _ => callbackReads rest s

/-- `notify` of R320: the callback is called when present, and makes the reads that stand first in `bpReads`
(notes/assumptions/35.md); without it nothing happens and nothing is recorded (R323). -/
def notify (k : BreakpointKind) (x : Word) (v : Byte) (s : State) : Host.Outcome State Fault Refusal :=
  if s.cbBkpt then
    callbackReads (s.bpReads.headD []) { emit (.breakpoint k x v) s with bpReads := s.bpReads.tail }
  else .next s

/-- The first act of a write (R77, R321): a notification when the issued, unfolded address is in BP_WRITE. -/
def notifyWrite (x : Word) (v : Byte) (s : State) : Host.Outcome State Fault Refusal :=
  if s.bpWrite.contains x then notify .memoryWrite x v s else .next s

/-- The Memory Map's `write` (R77, R78): fold, bounds, ROM protection, then the byte is stored. -/
def storeByte (x : Word) (v : Byte) (s : State) : Host.Outcome State Fault Refusal :=
  let f := fold s.cfg x
  if totalSize s.cfg ≤ f then raiseFault (.memWriteOutOfBounds x f v) s
  else if f < s.cfg.romSize && !s.cfg.romWriteable then raiseFault (.romWriteProtected x f v) s
  else .next { s with store := writeByte s.cfg.sentinel s.store f v }

/-- `MemWrite(a, 1, v)` of R77: the notification, whose callback still reads the prior value (R321), then the store; the
write is an event of the trace (R53). -/
def memWrite (x : Word) (v : Byte) (s : State) : Host.Outcome State Fault Refusal :=
  andThen (notifyWrite x v s) fun s1 =>
  andThen (storeByte x v s1) fun t =>
  .next (emit (.memWrite x v) t)

/-! ### The end of a step -/

/-- `len <- n`: the generic increment, `PC <- trunc16(PC + len)` (R110, R34). -/
def advance (n : InstrLen) (s : State) : State := { s with pc := s.pc + BitVec.ofNat 16 n.bytes }

/-- `PC <- target`, with no generic increment (R110). -/
def jumpTo (target : Word) (s : State) : State := { s with pc := target }

/-! ### Pairs of bytes and the stack -/

/-- `concat(h, l)`, "h * 256 + l for two bytes" (R13). -/
def concat (high low : Byte) : Word := BitVec.ofNat 16 (high.toNat * 256 + low.toNat)

/-- `v[15:8]`. -/
def highByte (v : Word) : Byte := v.extractLsb' 8 8

/-- `v[7:0]`. -/
def lowByte (v : Word) : Byte := v.extractLsb' 0 8

/-- `push16` of R210: the high byte at SP-1 first, then the low byte at SP-2; SP changes only when both are done. -/
def push16 (v : Word) (s : State) : Host.Outcome State Fault Refusal :=
  andThen (memWrite (s.sp - 1) (highByte v) s) fun s1 =>
  andThen (memWrite (s.sp - 2) (lowByte v) s1) fun s2 =>
  .next { s2 with sp := s.sp - 2 }

/-- `pop16` of R210: the low byte at SP first, then the high byte at SP+1; SP changes only when both are read. -/
def pop16 (s : State) : Host.Outcome (Word × State) Fault Refusal :=
  andThen (memRead s.sp s) fun lo =>
  andThen (memRead (s.sp + 1) s) fun hi =>
  .next (concat hi lo, { s with sp := s.sp + 2 })

/-- The address of restart and interrupt vector n, `8 * n` (R218, R312). -/
def vectorAddress (n : Nat) : Word := BitVec.ofNat 16 (8 * n)

/-- Save a return address on the stack and go to a target: CALL, Ccc, RST and interrupt entry (R214, R218, R310). -/
def callTo (ret target : Word) (s : State) : Host.Outcome State Fault Refusal :=
  andThen (push16 ret s) fun t => .next (jumpTo target t)

/-- The return from a call, a restart or an interrupt: `PC <- pop16()` (R216, R314). -/
def returnTo (s : State) : Host.Outcome State Fault Refusal :=
  andThen (pop16 s) fun r => .next (jumpTo r.1 r.2)

/-- Interrupt entry (R310 to R313), the transaction `interrupt(n)`: no effect in a terminal status; a vector outside 0
to 7 is refused (D17); dropped when IE is false; else PC is pushed and PC <- 8 * n, and IE is cleared only when
INT_CLEARS_IE is set (D16, notes/assumptions/20.md). NSTEPS and opcode breakpoints are untouched (D20). -/
def interrupt (n : Int) (s : State) : Host.Outcome State Fault Refusal :=
  if s.run ≠ .running then .next s
  else if !vectorInRange n then refuse (.badVector n) s
  else if !s.ie then .next s
  else
    andThen (callTo s.pc (vectorAddress n.toNat) s) fun t =>
    .next { t with ie := t.ie && !s.cfg.intClearsIe }

/-! ### Dispatch -/

/-- `op in IMPL_SET` (R10, R111). -/
def implemented (g : MachineConfig) (op : Byte) : Bool := !g.unimplemented.contains op

/-- The alias opcodes of R112. -/
def aliasOpcodes : List Byte :=
  [0x08, 0x10, 0x18, 0x20, 0x28, 0x30, 0x38, 0xCB, 0xD9, 0xDD, 0xED, 0xFD]

/-- The default of FALLBACK_LEN (R273): the length of R109, and 1 for the twelve aliases. -/
def defaultFallbackLen (op : Byte) : InstrLen :=
  if aliasOpcodes.contains op then .one else opcodeLen op

/-- FALLBACK_LEN(op): the configured difference, or the default (R273). -/
def fallbackLen (g : MachineConfig) (op : Byte) : InstrLen :=
  match g.fallbackLens.lookup op with
  | some n => n
  | none => defaultFallbackLen op

/-- The fallback (R272): a report, and PC advances by FALLBACK_LEN(op); nothing else changes. -/
def fallback (op : Byte) (s : State) : Host.Outcome State Fault Refusal :=
  .next (advance (fallbackLen s.cfg op) (emit (.unimplemented s.pc op) s))

/-- `dispatch` of R111 for the opcode `op` with its rule. -/
def dispatch (op : Byte) (rule : State → Host.Outcome State Fault Refusal) (s : State) :
    Host.Outcome State Fault Refusal :=
  if implemented s.cfg op then rule s else fallback op s

/-- A free value and the state with the counter advanced (`draw8` of R16; notes/assumptions/8.md). -/
def draw (s : State) : Byte × State := (Config.draw8 s.draws, { s with draws := s.draws + 1 })

end Sys2Proof.Machine
end

