-- ==== Sys2Proof/Machine/Operands.lean ====
section
/-! DEFINITION. Every operand form: the seven registers, M, and the register pairs as views (R30 to R33, R103, R104). -/

namespace Sys2Proof.Machine

/-- A register's value (R30). -/
def getReg (r : Reg8) (s : State) : Byte :=
  match r with
  | .b => s.b
  | .c => s.c
  | .d => s.d
  | .e => s.e
  | .h => s.h
  | .l => s.l
  | .a => s.a

/-- `X <- v` for a register (R30). -/
def setReg (r : Reg8) (v : Byte) (s : State) : State :=
  match r with
  | .b => { s with b := v }
  | .c => { s with c := v }
  | .d => { s with d := v }
  | .e => { s with e := v }
  | .h => { s with h := v }
  | .l => { s with l := v }
  | .a => { s with a := v }

/-- BC, "high byte first" (R31). -/
def getBC (s : State) : Word := concat s.b s.c

/-- DE (R31). -/
def getDE (s : State) : Word := concat s.d s.e

/-- HL (R31), the address of M (R32). -/
def getHL (s : State) : Word := concat s.h s.l

/-- `rp(p)`, SP form (R104). -/
def getPair (p : Pair) (s : State) : Word :=
  match p with
  | .bc => getBC s
  | .de => getDE s
  | .hl => getHL s
  | .sp => s.sp

/-- `setrp(p, v)`, SP form (R104): both registers of a pair "in one state update" (R31). -/
def setPair (p : Pair) (v : Word) (s : State) : State :=
  match p with
  | .bc => { s with b := highByte v, c := lowByte v }
  | .de => { s with d := highByte v, e := lowByte v }
  | .hl => { s with h := highByte v, l := lowByte v }
  | .sp => { s with sp := v }

/-- The pairs of PUSH and POP among the pairs of the SP form (R104). -/
def stackPair : StackPair → Pair
  | .bc => .bc
  | .de => .de
  | .hl => .hl

/-- The address pairs of LDAX and STAX (R140, R141). -/
def indexPair : IndexPair → Pair
  | .bc => .bc
  | .de => .de

/-- PSW, "the flags byte as the low half and accumulator as the high half" (R42, R104). -/
def getPSW (s : State) : Word := concat s.a (packF s.flags)

/-- `PSW <- v`: the flags from the low byte, A from the high byte (R42, R243). -/
def setPSW (v : Word) (s : State) : State := { s with flags := unpackF (lowByte v), a := highByte v }

/-- `reg8(r)` (R103). -/
def readOperand (o : Operand8) (s : State) : Host.Outcome Byte Fault Refusal :=
  match o with
  | .reg r => .next (getReg r s)
  | .m => memRead (getHL s) s

/-- `setreg8(r, v)` (R103). -/
def writeOperand (o : Operand8) (v : Byte) (s : State) : Host.Outcome State Fault Refusal :=
  match o with
  | .reg r => .next (setReg r v s)
  | .m => memWrite (getHL s) v s

end Sys2Proof.Machine
end

