-- ==== Sys2Proof/Machine/Arithmetic.lean ====
section
/-! DEFINITION. Arithmetic (R150 to R166): the shared rules, then one meaning per row of the opcode table. None of them
writes AC (R40). -/

namespace Sys2Proof.Machine

/-- `A <- r; setZSP(r); CY <- c`: the end of every ALU rule that writes A. -/
def writeResult (r : Byte × Bool) (s : State) : State :=
  { s with a := r.1, flags := { setZSP r.1 s.flags with cy := r.2 } }

/-- An ALU rule on a register or M: the operand is read, then the rule runs (R151 to R154, R181 to R184). -/
def operandRule (rule : Byte → State → State) (src : Operand8) (s : State) : Host.Outcome State Fault Refusal :=
  andThen (readOperand src s) fun v => .next (advance .one (rule v s))

/-- An ALU rule on an immediate byte (R155 to R158, R185 to R188). -/
def immediateRule (rule : Byte → State → State) (d8 : Byte) (s : State) : Host.Outcome State Fault Refusal :=
  .next (advance .two (rule d8 s))

/-- ADD, ADI (R151, R155). -/
def addRule (v : Byte) (s : State) : State := writeResult (add8 s.a v false) s

/-- ADC, ACI (R152, R156). -/
def adcRule (v : Byte) (s : State) : State := writeResult (add8 s.a v s.flags.cy) s

/-- SUB, SUI (R153, R157). -/
def subRule (v : Byte) (s : State) : State := writeResult (sub8 s.a v false) s

/-- SBB, SBI (R154, R158). -/
def sbbRule (v : Byte) (s : State) : State := writeResult (sub8 s.a v s.flags.cy) s

/-- INR of a register or M (R159, R160): read, write, then Z, S, P; CY is not written (D9, notes/assumptions/16.md). -/
def inrRule (dst : Operand8) (s : State) : Host.Outcome State Fault Refusal :=
  andThen (readOperand dst s) fun x =>
  andThen (writeOperand dst (x + 1) s) fun t =>
  .next (advance .one { t with flags := setZSP (x + 1) t.flags })

/-- DCR of a register or M (R161, R162), as INR. -/
def dcrRule (dst : Operand8) (s : State) : Host.Outcome State Fault Refusal :=
  andThen (readOperand dst s) fun x =>
  andThen (writeOperand dst (x - 1) s) fun t =>
  .next (advance .one { t with flags := setZSP (x - 1) t.flags })

/-- INX (R163): modulo 2^16, no flag. -/
def inxRule (p : Pair) (s : State) : Host.Outcome State Fault Refusal :=
  .next (advance .one (setPair p (getPair p s + 1) s))

/-- DCX (R164): modulo 2^16, no flag. -/
def dcxRule (p : Pair) (s : State) : Host.Outcome State Fault Refusal :=
  .next (advance .one (setPair p (getPair p s - 1) s))

/-- DAD (R165): HL and CY, no other flag. -/
def dadRule (p : Pair) (s : State) : Host.Outcome State Fault Refusal :=
  let r := add16 (getHL s) (getPair p s)
  let t := setPair .hl r.1 s
  .next (advance .one { t with flags := { t.flags with cy := r.2 } })

/-- DAA (R166), reading the stale AC (D10, notes/assumptions/17.md). -/
def daaRule (s : State) : Host.Outcome State Fault Refusal :=
  .next (advance .one (writeResult (daaAdjust s.a s.flags.cy s.flags.ac) s))

/-- 0x03 INX B (R163). -/
def execInxB (s : State) : Host.Outcome State Fault Refusal :=
  dispatch 0x03 (inxRule .bc) s

/-- 0x04 INR B (R159). -/
def execInrB (s : State) : Host.Outcome State Fault Refusal :=
  dispatch 0x04 (inrRule (.reg .b)) s

/-- 0x05 DCR B (R161). -/
def execDcrB (s : State) : Host.Outcome State Fault Refusal :=
  dispatch 0x05 (dcrRule (.reg .b)) s

/-- 0x09 DAD B (R165). -/
def execDadB (s : State) : Host.Outcome State Fault Refusal :=
  dispatch 0x09 (dadRule .bc) s

/-- 0x0B DCX B (R164). -/
def execDcxB (s : State) : Host.Outcome State Fault Refusal :=
  dispatch 0x0B (dcxRule .bc) s

/-- 0x0C INR C (R159). -/
def execInrC (s : State) : Host.Outcome State Fault Refusal :=
  dispatch 0x0C (inrRule (.reg .c)) s

/-- 0x0D DCR C (R161). -/
def execDcrC (s : State) : Host.Outcome State Fault Refusal :=
  dispatch 0x0D (dcrRule (.reg .c)) s

/-- 0x13 INX D (R163). -/
def execInxD (s : State) : Host.Outcome State Fault Refusal :=
  dispatch 0x13 (inxRule .de) s

/-- 0x14 INR D (R159). -/
def execInrD (s : State) : Host.Outcome State Fault Refusal :=
  dispatch 0x14 (inrRule (.reg .d)) s

/-- 0x15 DCR D (R161). -/
def execDcrD (s : State) : Host.Outcome State Fault Refusal :=
  dispatch 0x15 (dcrRule (.reg .d)) s

/-- 0x19 DAD D (R165). -/
def execDadD (s : State) : Host.Outcome State Fault Refusal :=
  dispatch 0x19 (dadRule .de) s

/-- 0x1B DCX D (R164). -/
def execDcxD (s : State) : Host.Outcome State Fault Refusal :=
  dispatch 0x1B (dcxRule .de) s

/-- 0x1C INR E (R159). -/
def execInrE (s : State) : Host.Outcome State Fault Refusal :=
  dispatch 0x1C (inrRule (.reg .e)) s

/-- 0x1D DCR E (R161). -/
def execDcrE (s : State) : Host.Outcome State Fault Refusal :=
  dispatch 0x1D (dcrRule (.reg .e)) s

/-- 0x23 INX H (R163). -/
def execInxH (s : State) : Host.Outcome State Fault Refusal :=
  dispatch 0x23 (inxRule .hl) s

/-- 0x24 INR H (R159). -/
def execInrH (s : State) : Host.Outcome State Fault Refusal :=
  dispatch 0x24 (inrRule (.reg .h)) s

/-- 0x25 DCR H (R161). -/
def execDcrH (s : State) : Host.Outcome State Fault Refusal :=
  dispatch 0x25 (dcrRule (.reg .h)) s

/-- 0x27 DAA (R166). -/
def execDaa (s : State) : Host.Outcome State Fault Refusal :=
  dispatch 0x27 daaRule s

/-- 0x29 DAD H (R165). -/
def execDadH (s : State) : Host.Outcome State Fault Refusal :=
  dispatch 0x29 (dadRule .hl) s

/-- 0x2B DCX H (R164). -/
def execDcxH (s : State) : Host.Outcome State Fault Refusal :=
  dispatch 0x2B (dcxRule .hl) s

/-- 0x2C INR L (R159). -/
def execInrL (s : State) : Host.Outcome State Fault Refusal :=
  dispatch 0x2C (inrRule (.reg .l)) s

/-- 0x2D DCR L (R161). -/
def execDcrL (s : State) : Host.Outcome State Fault Refusal :=
  dispatch 0x2D (dcrRule (.reg .l)) s

/-- 0x33 INX SP (R163). -/
def execInxSp (s : State) : Host.Outcome State Fault Refusal :=
  dispatch 0x33 (inxRule .sp) s

/-- 0x34 INR M (R160). -/
def execInrM (s : State) : Host.Outcome State Fault Refusal :=
  dispatch 0x34 (inrRule .m) s

/-- 0x35 DCR M (R162). -/
def execDcrM (s : State) : Host.Outcome State Fault Refusal :=
  dispatch 0x35 (dcrRule .m) s

/-- 0x39 DAD SP (R165). -/
def execDadSp (s : State) : Host.Outcome State Fault Refusal :=
  dispatch 0x39 (dadRule .sp) s

/-- 0x3B DCX SP (R164). -/
def execDcxSp (s : State) : Host.Outcome State Fault Refusal :=
  dispatch 0x3B (dcxRule .sp) s

/-- 0x3C INR A (R159). -/
def execInrA (s : State) : Host.Outcome State Fault Refusal :=
  dispatch 0x3C (inrRule (.reg .a)) s

/-- 0x3D DCR A (R161). -/
def execDcrA (s : State) : Host.Outcome State Fault Refusal :=
  dispatch 0x3D (dcrRule (.reg .a)) s

/-- 0x80 ADD B (R151). -/
def execAddB (s : State) : Host.Outcome State Fault Refusal :=
  dispatch 0x80 (operandRule addRule (.reg .b)) s

/-- 0x81 ADD C (R151). -/
def execAddC (s : State) : Host.Outcome State Fault Refusal :=
  dispatch 0x81 (operandRule addRule (.reg .c)) s

/-- 0x82 ADD D (R151). -/
def execAddD (s : State) : Host.Outcome State Fault Refusal :=
  dispatch 0x82 (operandRule addRule (.reg .d)) s

/-- 0x83 ADD E (R151). -/
def execAddE (s : State) : Host.Outcome State Fault Refusal :=
  dispatch 0x83 (operandRule addRule (.reg .e)) s

/-- 0x84 ADD H (R151). -/
def execAddH (s : State) : Host.Outcome State Fault Refusal :=
  dispatch 0x84 (operandRule addRule (.reg .h)) s

/-- 0x85 ADD L (R151). -/
def execAddL (s : State) : Host.Outcome State Fault Refusal :=
  dispatch 0x85 (operandRule addRule (.reg .l)) s

/-- 0x86 ADD M (R151). -/
def execAddM (s : State) : Host.Outcome State Fault Refusal :=
  dispatch 0x86 (operandRule addRule .m) s

/-- 0x87 ADD A (R151). -/
def execAddA (s : State) : Host.Outcome State Fault Refusal :=
  dispatch 0x87 (operandRule addRule (.reg .a)) s

/-- 0x88 ADC B (R152). -/
def execAdcB (s : State) : Host.Outcome State Fault Refusal :=
  dispatch 0x88 (operandRule adcRule (.reg .b)) s

/-- 0x89 ADC C (R152). -/
def execAdcC (s : State) : Host.Outcome State Fault Refusal :=
  dispatch 0x89 (operandRule adcRule (.reg .c)) s

/-- 0x8A ADC D (R152). -/
def execAdcD (s : State) : Host.Outcome State Fault Refusal :=
  dispatch 0x8A (operandRule adcRule (.reg .d)) s

/-- 0x8B ADC E (R152). -/
def execAdcE (s : State) : Host.Outcome State Fault Refusal :=
  dispatch 0x8B (operandRule adcRule (.reg .e)) s

/-- 0x8C ADC H (R152). -/
def execAdcH (s : State) : Host.Outcome State Fault Refusal :=
  dispatch 0x8C (operandRule adcRule (.reg .h)) s

/-- 0x8D ADC L (R152). -/
def execAdcL (s : State) : Host.Outcome State Fault Refusal :=
  dispatch 0x8D (operandRule adcRule (.reg .l)) s

/-- 0x8E ADC M (R152). -/
def execAdcM (s : State) : Host.Outcome State Fault Refusal :=
  dispatch 0x8E (operandRule adcRule .m) s

/-- 0x8F ADC A (R152). -/
def execAdcA (s : State) : Host.Outcome State Fault Refusal :=
  dispatch 0x8F (operandRule adcRule (.reg .a)) s

/-- 0x90 SUB B (R153). -/
def execSubB (s : State) : Host.Outcome State Fault Refusal :=
  dispatch 0x90 (operandRule subRule (.reg .b)) s

/-- 0x91 SUB C (R153). -/
def execSubC (s : State) : Host.Outcome State Fault Refusal :=
  dispatch 0x91 (operandRule subRule (.reg .c)) s

/-- 0x92 SUB D (R153). -/
def execSubD (s : State) : Host.Outcome State Fault Refusal :=
  dispatch 0x92 (operandRule subRule (.reg .d)) s

/-- 0x93 SUB E (R153). -/
def execSubE (s : State) : Host.Outcome State Fault Refusal :=
  dispatch 0x93 (operandRule subRule (.reg .e)) s

/-- 0x94 SUB H (R153). -/
def execSubH (s : State) : Host.Outcome State Fault Refusal :=
  dispatch 0x94 (operandRule subRule (.reg .h)) s

/-- 0x95 SUB L (R153). -/
def execSubL (s : State) : Host.Outcome State Fault Refusal :=
  dispatch 0x95 (operandRule subRule (.reg .l)) s

/-- 0x96 SUB M (R153). -/
def execSubM (s : State) : Host.Outcome State Fault Refusal :=
  dispatch 0x96 (operandRule subRule .m) s

/-- 0x97 SUB A (R153). -/
def execSubA (s : State) : Host.Outcome State Fault Refusal :=
  dispatch 0x97 (operandRule subRule (.reg .a)) s

/-- 0x98 SBB B (R154). -/
def execSbbB (s : State) : Host.Outcome State Fault Refusal :=
  dispatch 0x98 (operandRule sbbRule (.reg .b)) s

/-- 0x99 SBB C (R154). -/
def execSbbC (s : State) : Host.Outcome State Fault Refusal :=
  dispatch 0x99 (operandRule sbbRule (.reg .c)) s

/-- 0x9A SBB D (R154). -/
def execSbbD (s : State) : Host.Outcome State Fault Refusal :=
  dispatch 0x9A (operandRule sbbRule (.reg .d)) s

/-- 0x9B SBB E (R154). -/
def execSbbE (s : State) : Host.Outcome State Fault Refusal :=
  dispatch 0x9B (operandRule sbbRule (.reg .e)) s

/-- 0x9C SBB H (R154). -/
def execSbbH (s : State) : Host.Outcome State Fault Refusal :=
  dispatch 0x9C (operandRule sbbRule (.reg .h)) s

/-- 0x9D SBB L (R154). -/
def execSbbL (s : State) : Host.Outcome State Fault Refusal :=
  dispatch 0x9D (operandRule sbbRule (.reg .l)) s

/-- 0x9E SBB M (R154). -/
def execSbbM (s : State) : Host.Outcome State Fault Refusal :=
  dispatch 0x9E (operandRule sbbRule .m) s

/-- 0x9F SBB A (R154). -/
def execSbbA (s : State) : Host.Outcome State Fault Refusal :=
  dispatch 0x9F (operandRule sbbRule (.reg .a)) s

/-- 0xC6 ADI d8 (R155). -/
def execAdi (d8 : Byte) (s : State) : Host.Outcome State Fault Refusal :=
  dispatch 0xC6 (immediateRule addRule d8) s

/-- 0xCE ACI d8 (R156). -/
def execAci (d8 : Byte) (s : State) : Host.Outcome State Fault Refusal :=
  dispatch 0xCE (immediateRule adcRule d8) s

/-- 0xD6 SUI d8 (R157). -/
def execSui (d8 : Byte) (s : State) : Host.Outcome State Fault Refusal :=
  dispatch 0xD6 (immediateRule subRule d8) s

/-- 0xDE SBI d8 (R158). -/
def execSbi (d8 : Byte) (s : State) : Host.Outcome State Fault Refusal :=
  dispatch 0xDE (immediateRule sbbRule d8) s

end Sys2Proof.Machine
end

