-- ==== Sys2Proof/Machine/Branch.lean ====
section
/-! DEFINITION. Jumps, calls, returns and restarts (R211 to R220) and the diagnostic console hook of CALL (R230, R231):
the shared rules, then one meaning per row of the opcode table. None of them writes a flag. -/

namespace Sys2Proof.Machine

/-- JMP (R212). -/
def jmpRule (a16 : Word) (s : State) : Host.Outcome State Fault Refusal := .next (jumpTo a16 s)

/-- Jcc (R213): not taken, the full length 3. -/
def jccRule (k : Cond) (a16 : Word) (s : State) : Host.Outcome State Fault Refusal :=
  if condHolds k s.flags then .next (jumpTo a16 s) else .next (advance .three s)

/-- The console string of R230 from address `x`: characters go out until '$' (0x24) or NUL; `left` more may be printed
before the model refuses (DiagUnterminated, D21). -/
def consoleString : Nat → Word → State → Host.Outcome State Fault Refusal
  | 0, _, s => refuse (.diagUnterminated (getDE s)) s
  | left + 1, x, s =>
    andThen (memRead x s) fun ch =>
    if ch = 0x24 || ch = 0x00 then .next s
    else consoleString left (x + 1) (emit (.console ch) s)

/-- `diag_console()` of R230: C selects the string at DE or the placeholder line; no stack access. -/
def diagConsole (s : State) : Host.Outcome State Fault Refusal :=
  if s.c = s.cfg.diagPrintC then consoleString 65536 (getDE s) s
  else .next (emit (.consoleTrace s.c) s)

/-- `diag_exit()` of R231: RUN <- Exited and nothing else; a terminal outcome that is no fault. -/
def diagExit (s : State) : Host.Outcome State Fault Refusal := .next { s with run := .exited }

/-- CALL with no hook: the return address is that of the byte after the three bytes of the call (R214, R269). -/
def plainCallRule (a16 : Word) (s : State) : Host.Outcome State Fault Refusal := callTo (s.pc + 3) a16 s

/-- CALL, opcode 0xCD, the only one the hook tests (R214, R230, R231, D39). -/
def callRule (a16 : Word) (s : State) : Host.Outcome State Fault Refusal :=
  if s.cfg.diagEnabled && a16 = 0x0000 then diagExit s
  else if s.cfg.diagEnabled && a16 = s.cfg.diagVector then
    andThen (diagConsole s) fun t => .next (advance .three t)
  else plainCallRule a16 s

/-- Ccc (R215): no hook; not taken, the full length 3. -/
def cccRule (k : Cond) (a16 : Word) (s : State) : Host.Outcome State Fault Refusal :=
  if condHolds k s.flags then plainCallRule a16 s else .next (advance .three s)

/-- RET (R216). -/
def retRule (s : State) : Host.Outcome State Fault Refusal := returnTo s

/-- Rcc (R217): not taken, length 1 and no read. -/
def rccRule (k : Cond) (s : State) : Host.Outcome State Fault Refusal :=
  if condHolds k s.flags then returnTo s else .next (advance .one s)

/-- RST n (R218). -/
def rstRule (n : Nat) (s : State) : Host.Outcome State Fault Refusal := callTo (s.pc + 1) (vectorAddress n) s

/-- PCHL (R219). -/
def pchlRule (s : State) : Host.Outcome State Fault Refusal := .next (jumpTo (getHL s) s)

/-- 0xC0 RNZ (R217). -/
def execRnz (s : State) : Host.Outcome State Fault Refusal :=
  dispatch 0xC0 (rccRule .nz) s

/-- 0xC2 JNZ a16 (R213). -/
def execJnz (a16 : Word) (s : State) : Host.Outcome State Fault Refusal :=
  dispatch 0xC2 (jccRule .nz a16) s

/-- 0xC3 JMP a16 (R212). -/
def execJmp (a16 : Word) (s : State) : Host.Outcome State Fault Refusal :=
  dispatch 0xC3 (jmpRule a16) s

/-- 0xC4 CNZ a16 (R215). -/
def execCnz (a16 : Word) (s : State) : Host.Outcome State Fault Refusal :=
  dispatch 0xC4 (cccRule .nz a16) s

/-- 0xC7 RST 0 (R218). -/
def execRst0 (s : State) : Host.Outcome State Fault Refusal :=
  dispatch 0xC7 (rstRule 0) s

/-- 0xC8 RZ (R217). -/
def execRz (s : State) : Host.Outcome State Fault Refusal :=
  dispatch 0xC8 (rccRule .z) s

/-- 0xC9 RET (R216). -/
def execRet (s : State) : Host.Outcome State Fault Refusal :=
  dispatch 0xC9 retRule s

/-- 0xCA JZ a16 (R213). -/
def execJz (a16 : Word) (s : State) : Host.Outcome State Fault Refusal :=
  dispatch 0xCA (jccRule .z a16) s

/-- 0xCC CZ a16 (R215). -/
def execCz (a16 : Word) (s : State) : Host.Outcome State Fault Refusal :=
  dispatch 0xCC (cccRule .z a16) s

/-- 0xCD CALL a16 (R214). -/
def execCall (a16 : Word) (s : State) : Host.Outcome State Fault Refusal :=
  dispatch 0xCD (callRule a16) s

/-- 0xCF RST 1 (R218). -/
def execRst1 (s : State) : Host.Outcome State Fault Refusal :=
  dispatch 0xCF (rstRule 1) s

/-- 0xD0 RNC (R217). -/
def execRnc (s : State) : Host.Outcome State Fault Refusal :=
  dispatch 0xD0 (rccRule .nc) s

/-- 0xD2 JNC a16 (R213). -/
def execJnc (a16 : Word) (s : State) : Host.Outcome State Fault Refusal :=
  dispatch 0xD2 (jccRule .nc a16) s

/-- 0xD4 CNC a16 (R215). -/
def execCnc (a16 : Word) (s : State) : Host.Outcome State Fault Refusal :=
  dispatch 0xD4 (cccRule .nc a16) s

/-- 0xD7 RST 2 (R218). -/
def execRst2 (s : State) : Host.Outcome State Fault Refusal :=
  dispatch 0xD7 (rstRule 2) s

/-- 0xD8 RC (R217). -/
def execRc (s : State) : Host.Outcome State Fault Refusal :=
  dispatch 0xD8 (rccRule .c) s

/-- 0xDA JC a16 (R213). -/
def execJc (a16 : Word) (s : State) : Host.Outcome State Fault Refusal :=
  dispatch 0xDA (jccRule .c a16) s

/-- 0xDC CC a16 (R215). -/
def execCc (a16 : Word) (s : State) : Host.Outcome State Fault Refusal :=
  dispatch 0xDC (cccRule .c a16) s

/-- 0xDF RST 3 (R218). -/
def execRst3 (s : State) : Host.Outcome State Fault Refusal :=
  dispatch 0xDF (rstRule 3) s

/-- 0xE0 RPO (R217). -/
def execRpo (s : State) : Host.Outcome State Fault Refusal :=
  dispatch 0xE0 (rccRule .po) s

/-- 0xE2 JPO a16 (R213). -/
def execJpo (a16 : Word) (s : State) : Host.Outcome State Fault Refusal :=
  dispatch 0xE2 (jccRule .po a16) s

/-- 0xE4 CPO a16 (R215). -/
def execCpo (a16 : Word) (s : State) : Host.Outcome State Fault Refusal :=
  dispatch 0xE4 (cccRule .po a16) s

/-- 0xE7 RST 4 (R218). -/
def execRst4 (s : State) : Host.Outcome State Fault Refusal :=
  dispatch 0xE7 (rstRule 4) s

/-- 0xE8 RPE (R217). -/
def execRpe (s : State) : Host.Outcome State Fault Refusal :=
  dispatch 0xE8 (rccRule .pe) s

/-- 0xE9 PCHL (R219). -/
def execPchl (s : State) : Host.Outcome State Fault Refusal :=
  dispatch 0xE9 pchlRule s

/-- 0xEA JPE a16 (R213). -/
def execJpe (a16 : Word) (s : State) : Host.Outcome State Fault Refusal :=
  dispatch 0xEA (jccRule .pe a16) s

/-- 0xEC CPE a16 (R215). -/
def execCpe (a16 : Word) (s : State) : Host.Outcome State Fault Refusal :=
  dispatch 0xEC (cccRule .pe a16) s

/-- 0xEF RST 5 (R218). -/
def execRst5 (s : State) : Host.Outcome State Fault Refusal :=
  dispatch 0xEF (rstRule 5) s

/-- 0xF0 RP (R217). -/
def execRp (s : State) : Host.Outcome State Fault Refusal :=
  dispatch 0xF0 (rccRule .p) s

/-- 0xF2 JP a16 (R213). -/
def execJp (a16 : Word) (s : State) : Host.Outcome State Fault Refusal :=
  dispatch 0xF2 (jccRule .p a16) s

/-- 0xF4 CP a16 (R215). -/
def execCp (a16 : Word) (s : State) : Host.Outcome State Fault Refusal :=
  dispatch 0xF4 (cccRule .p a16) s

/-- 0xF7 RST 6 (R218). -/
def execRst6 (s : State) : Host.Outcome State Fault Refusal :=
  dispatch 0xF7 (rstRule 6) s

/-- 0xF8 RM (R217). -/
def execRm (s : State) : Host.Outcome State Fault Refusal :=
  dispatch 0xF8 (rccRule .m) s

/-- 0xFA JM a16 (R213). -/
def execJm (a16 : Word) (s : State) : Host.Outcome State Fault Refusal :=
  dispatch 0xFA (jccRule .m a16) s

/-- 0xFC CM a16 (R215). -/
def execCm (a16 : Word) (s : State) : Host.Outcome State Fault Refusal :=
  dispatch 0xFC (cccRule .m a16) s

/-- 0xFF RST 7 (R218). -/
def execRst7 (s : State) : Host.Outcome State Fault Refusal :=
  dispatch 0xFF (rstRule 7) s

end Sys2Proof.Machine
end

