-- ==== Sys2Proof/Machine/Control.lean ====
section
/-! DEFINITION. Port I/O, interrupt enable, machine control and the alias opcodes (R260 to R270): the shared rules, then
one meaning per row of the opcode table. -/

namespace Sys2Proof.Machine

/-- The in-callback's answer (R260, R270): the host's next answer, or a free value when the model holds none
(notes/assumptions/8.md). -/
def hostAnswer (s : State) : Byte × State :=
  match s.inAnswers with
  | v :: rest => (v, { s with inAnswers := rest })
  | [] => draw s

/-- IN (R260): A gets the callback's answer, recorded as an event; with no in-callback a free value (D14). -/
def inRule (p8 : Byte) (s : State) : Host.Outcome State Fault Refusal :=
  if s.cbIn then
    let r := hostAnswer s
    .next (advance .two { emit (.ioIn p8 r.1) r.2 with a := r.1 })
  else
    let r := draw s
    .next (advance .two { r.2 with a := r.1 })

/-- OUT (R261): the callback gets A; with no out-callback nothing happens. -/
def outRule (p8 : Byte) (s : State) : Host.Outcome State Fault Refusal :=
  .next (advance .two (if s.cbOut then emit (.ioOut p8 s.a) s else s))

/-- EI (R262): no delay (D18). -/
def eiRule (s : State) : Host.Outcome State Fault Refusal := .next (advance .one { s with ie := true })

/-- DI (R263): IE is not changed. -/
def diRule (s : State) : Host.Outcome State Fault Refusal := .next (advance .one s)

/-- HLT inside IMPL_SET (R111, R264): refused, HaltUnmodelled (D6, notes/assumptions/13.md). Outside it `dispatch` runs
the fallback. -/
def hltRule (s : State) : Host.Outcome State Fault Refusal := refuse (.haltUnmodelled s.pc) s

/-- NOP and its aliases (R265, R266). -/
def nopRule (s : State) : Host.Outcome State Fault Refusal := .next (advance .one s)

/-- 0x00 NOP (R265). -/
def execNop (s : State) : Host.Outcome State Fault Refusal :=
  dispatch 0x00 nopRule s

/-- 0x08 NOP (alias) (R266). -/
def execNop08 (s : State) : Host.Outcome State Fault Refusal :=
  dispatch 0x08 nopRule s

/-- 0x10 NOP (alias) (R266). -/
def execNop10 (s : State) : Host.Outcome State Fault Refusal :=
  dispatch 0x10 nopRule s

/-- 0x18 NOP (alias) (R266). -/
def execNop18 (s : State) : Host.Outcome State Fault Refusal :=
  dispatch 0x18 nopRule s

/-- 0x20 NOP (alias) (R266). -/
def execNop20 (s : State) : Host.Outcome State Fault Refusal :=
  dispatch 0x20 nopRule s

/-- 0x28 NOP (alias) (R266). -/
def execNop28 (s : State) : Host.Outcome State Fault Refusal :=
  dispatch 0x28 nopRule s

/-- 0x30 NOP (alias) (R266). -/
def execNop30 (s : State) : Host.Outcome State Fault Refusal :=
  dispatch 0x30 nopRule s

/-- 0x38 NOP (alias) (R266). -/
def execNop38 (s : State) : Host.Outcome State Fault Refusal :=
  dispatch 0x38 nopRule s

/-- 0x76 HLT (R264). -/
def execHlt (s : State) : Host.Outcome State Fault Refusal :=
  dispatch 0x76 hltRule s

/-- 0xCB JMP a16 (alias) (R267). -/
def execJmpCB (a16 : Word) (s : State) : Host.Outcome State Fault Refusal :=
  dispatch 0xCB (jmpRule a16) s

/-- 0xD3 OUT p8 (R261). -/
def execOutPort (p8 : Byte) (s : State) : Host.Outcome State Fault Refusal :=
  dispatch 0xD3 (outRule p8) s

/-- 0xD9 RET (alias) (R268). -/
def execRetD9 (s : State) : Host.Outcome State Fault Refusal :=
  dispatch 0xD9 retRule s

/-- 0xDB IN p8 (R260). -/
def execInPort (p8 : Byte) (s : State) : Host.Outcome State Fault Refusal :=
  dispatch 0xDB (inRule p8) s

/-- 0xDD CALL a16 (alias) (R269). -/
def execCallDD (a16 : Word) (s : State) : Host.Outcome State Fault Refusal :=
  dispatch 0xDD (plainCallRule a16) s

/-- 0xED CALL a16 (alias) (R269). -/
def execCallED (a16 : Word) (s : State) : Host.Outcome State Fault Refusal :=
  dispatch 0xED (plainCallRule a16) s

/-- 0xF3 DI (R263). -/
def execDi (s : State) : Host.Outcome State Fault Refusal :=
  dispatch 0xF3 diRule s

/-- 0xFB EI (R262). -/
def execEi (s : State) : Host.Outcome State Fault Refusal :=
  dispatch 0xFB eiRule s

/-- 0xFD CALL a16 (alias) (R269). -/
def execCallFD (a16 : Word) (s : State) : Host.Outcome State Fault Refusal :=
  dispatch 0xFD (plainCallRule a16) s

end Sys2Proof.Machine
end

