-- ==== Sys2Proof/Machine/Logical.lean ====
section
/-! DEFINITION. Logical operations, compare, rotates and carry (R180 to R195): the shared rules, then one meaning per
row of the opcode table. None of them writes AC (R180). -/

namespace Sys2Proof.Machine

/-- ANA, ANI (R181, R185): CY <- 0 (R180). -/
def anaRule (v : Byte) (s : State) : State := writeResult (s.a &&& v, false) s

/-- XRA, XRI (R182, R186): CY <- 0 (R180). -/
def xraRule (v : Byte) (s : State) : State := writeResult (s.a ^^^ v, false) s

/-- ORA, ORI (R183, R187): CY <- 0 (R180). -/
def oraRule (v : Byte) (s : State) : State := writeResult (s.a ||| v, false) s

/-- CMP, CPI (R184, R188): the flags of a subtraction; A is not written. -/
def cmpRule (v : Byte) (s : State) : State :=
  let r := sub8 s.a v false
  { s with flags := { setZSP r.1 s.flags with cy := r.2 } }

/-- A rotate's result: A and CY, no other flag (R189 to R192). -/
def rotateRule (r : Byte × Bool) (s : State) : Host.Outcome State Fault Refusal :=
  .next (advance .one { s with a := r.1, flags := { s.flags with cy := r.2 } })

/-- RLC (R189). -/
def rlcRule (s : State) : Host.Outcome State Fault Refusal := rotateRule (rlc8 s.a) s

/-- RRC (R190). -/
def rrcRule (s : State) : Host.Outcome State Fault Refusal := rotateRule (rrc8 s.a) s

/-- RAL (R191). -/
def ralRule (s : State) : Host.Outcome State Fault Refusal := rotateRule (ral8 s.a s.flags.cy) s

/-- RAR (R192). -/
def rarRule (s : State) : Host.Outcome State Fault Refusal := rotateRule (rar8 s.a s.flags.cy) s

/-- CMA (R193): `A <- A ^ 0xFF`, no flag. -/
def cmaRule (s : State) : Host.Outcome State Fault Refusal := .next (advance .one { s with a := s.a ^^^ 0xFF })

/-- CMC (R194). -/
def cmcRule (s : State) : Host.Outcome State Fault Refusal :=
  .next (advance .one { s with flags := { s.flags with cy := !s.flags.cy } })

/-- STC (R195). -/
def stcRule (s : State) : Host.Outcome State Fault Refusal :=
  .next (advance .one { s with flags := { s.flags with cy := true } })

/-- 0x07 RLC (R189). -/
def execRlc (s : State) : Host.Outcome State Fault Refusal :=
  dispatch 0x07 rlcRule s

/-- 0x0F RRC (R190). -/
def execRrc (s : State) : Host.Outcome State Fault Refusal :=
  dispatch 0x0F rrcRule s

/-- 0x17 RAL (R191). -/
def execRal (s : State) : Host.Outcome State Fault Refusal :=
  dispatch 0x17 ralRule s

/-- 0x1F RAR (R192). -/
def execRar (s : State) : Host.Outcome State Fault Refusal :=
  dispatch 0x1F rarRule s

/-- 0x2F CMA (R193). -/
def execCma (s : State) : Host.Outcome State Fault Refusal :=
  dispatch 0x2F cmaRule s

/-- 0x37 STC (R195). -/
def execStc (s : State) : Host.Outcome State Fault Refusal :=
  dispatch 0x37 stcRule s

/-- 0x3F CMC (R194). -/
def execCmc (s : State) : Host.Outcome State Fault Refusal :=
  dispatch 0x3F cmcRule s

/-- 0xA0 ANA B (R181). -/
def execAnaB (s : State) : Host.Outcome State Fault Refusal :=
  dispatch 0xA0 (operandRule anaRule (.reg .b)) s

/-- 0xA1 ANA C (R181). -/
def execAnaC (s : State) : Host.Outcome State Fault Refusal :=
  dispatch 0xA1 (operandRule anaRule (.reg .c)) s

/-- 0xA2 ANA D (R181). -/
def execAnaD (s : State) : Host.Outcome State Fault Refusal :=
  dispatch 0xA2 (operandRule anaRule (.reg .d)) s

/-- 0xA3 ANA E (R181). -/
def execAnaE (s : State) : Host.Outcome State Fault Refusal :=
  dispatch 0xA3 (operandRule anaRule (.reg .e)) s

/-- 0xA4 ANA H (R181). -/
def execAnaH (s : State) : Host.Outcome State Fault Refusal :=
  dispatch 0xA4 (operandRule anaRule (.reg .h)) s

/-- 0xA5 ANA L (R181). -/
def execAnaL (s : State) : Host.Outcome State Fault Refusal :=
  dispatch 0xA5 (operandRule anaRule (.reg .l)) s

/-- 0xA6 ANA M (R181). -/
def execAnaM (s : State) : Host.Outcome State Fault Refusal :=
  dispatch 0xA6 (operandRule anaRule .m) s

/-- 0xA7 ANA A (R181). -/
def execAnaA (s : State) : Host.Outcome State Fault Refusal :=
  dispatch 0xA7 (operandRule anaRule (.reg .a)) s

/-- 0xA8 XRA B (R182). -/
def execXraB (s : State) : Host.Outcome State Fault Refusal :=
  dispatch 0xA8 (operandRule xraRule (.reg .b)) s

/-- 0xA9 XRA C (R182). -/
def execXraC (s : State) : Host.Outcome State Fault Refusal :=
  dispatch 0xA9 (operandRule xraRule (.reg .c)) s

/-- 0xAA XRA D (R182). -/
def execXraD (s : State) : Host.Outcome State Fault Refusal :=
  dispatch 0xAA (operandRule xraRule (.reg .d)) s

/-- 0xAB XRA E (R182). -/
def execXraE (s : State) : Host.Outcome State Fault Refusal :=
  dispatch 0xAB (operandRule xraRule (.reg .e)) s

/-- 0xAC XRA H (R182). -/
def execXraH (s : State) : Host.Outcome State Fault Refusal :=
  dispatch 0xAC (operandRule xraRule (.reg .h)) s

/-- 0xAD XRA L (R182). -/
def execXraL (s : State) : Host.Outcome State Fault Refusal :=
  dispatch 0xAD (operandRule xraRule (.reg .l)) s

/-- 0xAE XRA M (R182). -/
def execXraM (s : State) : Host.Outcome State Fault Refusal :=
  dispatch 0xAE (operandRule xraRule .m) s

/-- 0xAF XRA A (R182). -/
def execXraA (s : State) : Host.Outcome State Fault Refusal :=
  dispatch 0xAF (operandRule xraRule (.reg .a)) s

/-- 0xB0 ORA B (R183). -/
def execOraB (s : State) : Host.Outcome State Fault Refusal :=
  dispatch 0xB0 (operandRule oraRule (.reg .b)) s

/-- 0xB1 ORA C (R183). -/
def execOraC (s : State) : Host.Outcome State Fault Refusal :=
  dispatch 0xB1 (operandRule oraRule (.reg .c)) s

/-- 0xB2 ORA D (R183). -/
def execOraD (s : State) : Host.Outcome State Fault Refusal :=
  dispatch 0xB2 (operandRule oraRule (.reg .d)) s

/-- 0xB3 ORA E (R183). -/
def execOraE (s : State) : Host.Outcome State Fault Refusal :=
  dispatch 0xB3 (operandRule oraRule (.reg .e)) s

/-- 0xB4 ORA H (R183). -/
def execOraH (s : State) : Host.Outcome State Fault Refusal :=
  dispatch 0xB4 (operandRule oraRule (.reg .h)) s

/-- 0xB5 ORA L (R183). -/
def execOraL (s : State) : Host.Outcome State Fault Refusal :=
  dispatch 0xB5 (operandRule oraRule (.reg .l)) s

/-- 0xB6 ORA M (R183). -/
def execOraM (s : State) : Host.Outcome State Fault Refusal :=
  dispatch 0xB6 (operandRule oraRule .m) s

/-- 0xB7 ORA A (R183). -/
def execOraA (s : State) : Host.Outcome State Fault Refusal :=
  dispatch 0xB7 (operandRule oraRule (.reg .a)) s

/-- 0xB8 CMP B (R184). -/
def execCmpB (s : State) : Host.Outcome State Fault Refusal :=
  dispatch 0xB8 (operandRule cmpRule (.reg .b)) s

/-- 0xB9 CMP C (R184). -/
def execCmpC (s : State) : Host.Outcome State Fault Refusal :=
  dispatch 0xB9 (operandRule cmpRule (.reg .c)) s

/-- 0xBA CMP D (R184). -/
def execCmpD (s : State) : Host.Outcome State Fault Refusal :=
  dispatch 0xBA (operandRule cmpRule (.reg .d)) s

/-- 0xBB CMP E (R184). -/
def execCmpE (s : State) : Host.Outcome State Fault Refusal :=
  dispatch 0xBB (operandRule cmpRule (.reg .e)) s

/-- 0xBC CMP H (R184). -/
def execCmpH (s : State) : Host.Outcome State Fault Refusal :=
  dispatch 0xBC (operandRule cmpRule (.reg .h)) s

/-- 0xBD CMP L (R184). -/
def execCmpL (s : State) : Host.Outcome State Fault Refusal :=
  dispatch 0xBD (operandRule cmpRule (.reg .l)) s

/-- 0xBE CMP M (R184). -/
def execCmpM (s : State) : Host.Outcome State Fault Refusal :=
  dispatch 0xBE (operandRule cmpRule .m) s

/-- 0xBF CMP A (R184). -/
def execCmpA (s : State) : Host.Outcome State Fault Refusal :=
  dispatch 0xBF (operandRule cmpRule (.reg .a)) s

/-- 0xE6 ANI d8 (R185). -/
def execAni (d8 : Byte) (s : State) : Host.Outcome State Fault Refusal :=
  dispatch 0xE6 (immediateRule anaRule d8) s

/-- 0xEE XRI d8 (R186). -/
def execXri (d8 : Byte) (s : State) : Host.Outcome State Fault Refusal :=
  dispatch 0xEE (immediateRule xraRule d8) s

/-- 0xF6 ORI d8 (R187). -/
def execOri (d8 : Byte) (s : State) : Host.Outcome State Fault Refusal :=
  dispatch 0xF6 (immediateRule oraRule d8) s

/-- 0xFE CPI d8 (R188). -/
def execCpi (d8 : Byte) (s : State) : Host.Outcome State Fault Refusal :=
  dispatch 0xFE (immediateRule cmpRule d8) s

end Sys2Proof.Machine
end

