-- ==== Sys2Proof/Machine/Stack.lean ====
section
/-! DEFINITION. Stack instructions (R240 to R246): the shared rules, then one meaning per row of the opcode table. -/

namespace Sys2Proof.Machine

/-- PUSH of a register pair (R240). -/
def pushRule (p : StackPair) (s : State) : Host.Outcome State Fault Refusal :=
  andThen (push16 (getPair (stackPair p) s) s) fun t => .next (advance .one t)

/-- PUSH PSW (R241). -/
def pushPswRule (s : State) : Host.Outcome State Fault Refusal :=
  andThen (push16 (getPSW s) s) fun t => .next (advance .one t)

/-- POP of a register pair (R242). -/
def popRule (p : StackPair) (s : State) : Host.Outcome State Fault Refusal :=
  andThen (pop16 s) fun r => .next (advance .one (setPair (stackPair p) r.1 r.2))

/-- POP PSW (R243), the only writer of AC. -/
def popPswRule (s : State) : Host.Outcome State Fault Refusal :=
  andThen (pop16 s) fun r => .next (advance .one (setPSW r.1 r.2))

/-- XTHL (R244): two reads, then two writes, then HL; SP is not changed. -/
def xthlRule (s : State) : Host.Outcome State Fault Refusal :=
  andThen (memRead s.sp s) fun lo =>
  andThen (memRead (s.sp + 1) s) fun hi =>
  andThen (memWrite s.sp s.l s) fun s1 =>
  andThen (memWrite (s.sp + 1) s.h s1) fun s2 =>
  .next (advance .one { s2 with l := lo, h := hi })

/-- SPHL (R245). -/
def sphlRule (s : State) : Host.Outcome State Fault Refusal := .next (advance .one { s with sp := getHL s })

/-- 0xC1 POP B (R242). -/
def execPopB (s : State) : Host.Outcome State Fault Refusal :=
  dispatch 0xC1 (popRule .bc) s

/-- 0xC5 PUSH B (R240). -/
def execPushB (s : State) : Host.Outcome State Fault Refusal :=
  dispatch 0xC5 (pushRule .bc) s

/-- 0xD1 POP D (R242). -/
def execPopD (s : State) : Host.Outcome State Fault Refusal :=
  dispatch 0xD1 (popRule .de) s

/-- 0xD5 PUSH D (R240). -/
def execPushD (s : State) : Host.Outcome State Fault Refusal :=
  dispatch 0xD5 (pushRule .de) s

/-- 0xE1 POP H (R242). -/
def execPopH (s : State) : Host.Outcome State Fault Refusal :=
  dispatch 0xE1 (popRule .hl) s

/-- 0xE3 XTHL (R244). -/
def execXthl (s : State) : Host.Outcome State Fault Refusal :=
  dispatch 0xE3 xthlRule s

/-- 0xE5 PUSH H (R240). -/
def execPushH (s : State) : Host.Outcome State Fault Refusal :=
  dispatch 0xE5 (pushRule .hl) s

/-- 0xF1 POP PSW (R243). -/
def execPopPsw (s : State) : Host.Outcome State Fault Refusal :=
  dispatch 0xF1 popPswRule s

/-- 0xF5 PUSH PSW (R241). -/
def execPushPsw (s : State) : Host.Outcome State Fault Refusal :=
  dispatch 0xF5 pushPswRule s

/-- 0xF9 SPHL (R245). -/
def execSphl (s : State) : Host.Outcome State Fault Refusal :=
  dispatch 0xF9 sphlRule s

end Sys2Proof.Machine
end

