-- ==== Sys2Proof/Machine/Transfer.lean ====
section
/-! DEFINITION. Data transfer (R130 to R142): the shared rules, then one meaning per row of the opcode table. None of
them writes a flag. -/

namespace Sys2Proof.Machine

/-- MOV in its three forms (R130 to R132): `setreg8(DDD, reg8(SSS))`; the source is read before the destination is
written, so MOV H,M reads at the old HL. -/
def movRule (dst src : Operand8) (s : State) : Host.Outcome State Fault Refusal :=
  andThen (readOperand src s) fun v =>
  andThen (writeOperand dst v s) fun t =>
  .next (advance .one t)

/-- MVI to a register or M (R133, R134). -/
def mviRule (dst : Operand8) (d8 : Byte) (s : State) : Host.Outcome State Fault Refusal :=
  andThen (writeOperand dst d8 s) fun t => .next (advance .two t)

/-- LXI (R135). -/
def lxiRule (p : Pair) (d16 : Word) (s : State) : Host.Outcome State Fault Refusal :=
  .next (advance .three (setPair p d16 s))

/-- LDA (R136). -/
def ldaRule (a16 : Word) (s : State) : Host.Outcome State Fault Refusal :=
  andThen (memRead a16 s) fun v => .next (advance .three { s with a := v })

/-- STA (R137). -/
def staRule (a16 : Word) (s : State) : Host.Outcome State Fault Refusal :=
  andThen (memWrite a16 s.a s) fun t => .next (advance .three t)

/-- LHLD (R138): L first; when the second read faults L is already written (R307). -/
def lhldRule (a16 : Word) (s : State) : Host.Outcome State Fault Refusal :=
  andThen (memRead a16 s) fun lo =>
  let s1 := { s with l := lo }
  andThen (memRead (a16 + 1) s1) fun hi =>
  .next (advance .three { s1 with h := hi })

/-- SHLD (R139): L first; when the second write faults the first has been made (R307). -/
def shldRule (a16 : Word) (s : State) : Host.Outcome State Fault Refusal :=
  andThen (memWrite a16 s.l s) fun s1 =>
  andThen (memWrite (a16 + 1) s.h s1) fun s2 =>
  .next (advance .three s2)

/-- LDAX (R140). -/
def ldaxRule (p : IndexPair) (s : State) : Host.Outcome State Fault Refusal :=
  andThen (memRead (getPair (indexPair p) s) s) fun v => .next (advance .one { s with a := v })

/-- STAX (R141). -/
def staxRule (p : IndexPair) (s : State) : Host.Outcome State Fault Refusal :=
  andThen (memWrite (getPair (indexPair p) s) s.a s) fun t => .next (advance .one t)

/-- XCHG (R142): "H with D, L with E". -/
def xchgRule (s : State) : Host.Outcome State Fault Refusal :=
  .next (advance .one { s with h := s.d, l := s.e, d := s.h, e := s.l })

/-- 0x01 LXI B,d16 (R135). -/
def execLxiB (d16 : Word) (s : State) : Host.Outcome State Fault Refusal :=
  dispatch 0x01 (lxiRule .bc d16) s

/-- 0x02 STAX B (R141). -/
def execStaxB (s : State) : Host.Outcome State Fault Refusal :=
  dispatch 0x02 (staxRule .bc) s

/-- 0x06 MVI B,d8 (R133). -/
def execMviB (d8 : Byte) (s : State) : Host.Outcome State Fault Refusal :=
  dispatch 0x06 (mviRule (.reg .b) d8) s

/-- 0x0A LDAX B (R140). -/
def execLdaxB (s : State) : Host.Outcome State Fault Refusal :=
  dispatch 0x0A (ldaxRule .bc) s

/-- 0x0E MVI C,d8 (R133). -/
def execMviC (d8 : Byte) (s : State) : Host.Outcome State Fault Refusal :=
  dispatch 0x0E (mviRule (.reg .c) d8) s

/-- 0x11 LXI D,d16 (R135). -/
def execLxiD (d16 : Word) (s : State) : Host.Outcome State Fault Refusal :=
  dispatch 0x11 (lxiRule .de d16) s

/-- 0x12 STAX D (R141). -/
def execStaxD (s : State) : Host.Outcome State Fault Refusal :=
  dispatch 0x12 (staxRule .de) s

/-- 0x16 MVI D,d8 (R133). -/
def execMviD (d8 : Byte) (s : State) : Host.Outcome State Fault Refusal :=
  dispatch 0x16 (mviRule (.reg .d) d8) s

/-- 0x1A LDAX D (R140). -/
def execLdaxD (s : State) : Host.Outcome State Fault Refusal :=
  dispatch 0x1A (ldaxRule .de) s

/-- 0x1E MVI E,d8 (R133). -/
def execMviE (d8 : Byte) (s : State) : Host.Outcome State Fault Refusal :=
  dispatch 0x1E (mviRule (.reg .e) d8) s

/-- 0x21 LXI H,d16 (R135). -/
def execLxiH (d16 : Word) (s : State) : Host.Outcome State Fault Refusal :=
  dispatch 0x21 (lxiRule .hl d16) s

/-- 0x22 SHLD a16 (R139). -/
def execShld (a16 : Word) (s : State) : Host.Outcome State Fault Refusal :=
  dispatch 0x22 (shldRule a16) s

/-- 0x26 MVI H,d8 (R133). -/
def execMviH (d8 : Byte) (s : State) : Host.Outcome State Fault Refusal :=
  dispatch 0x26 (mviRule (.reg .h) d8) s

/-- 0x2A LHLD a16 (R138). -/
def execLhld (a16 : Word) (s : State) : Host.Outcome State Fault Refusal :=
  dispatch 0x2A (lhldRule a16) s

/-- 0x2E MVI L,d8 (R133). -/
def execMviL (d8 : Byte) (s : State) : Host.Outcome State Fault Refusal :=
  dispatch 0x2E (mviRule (.reg .l) d8) s

/-- 0x31 LXI SP,d16 (R135). -/
def execLxiSp (d16 : Word) (s : State) : Host.Outcome State Fault Refusal :=
  dispatch 0x31 (lxiRule .sp d16) s

/-- 0x32 STA a16 (R137). -/
def execSta (a16 : Word) (s : State) : Host.Outcome State Fault Refusal :=
  dispatch 0x32 (staRule a16) s

/-- 0x36 MVI M,d8 (R134). -/
def execMviM (d8 : Byte) (s : State) : Host.Outcome State Fault Refusal :=
  dispatch 0x36 (mviRule .m d8) s

/-- 0x3A LDA a16 (R136). -/
def execLda (a16 : Word) (s : State) : Host.Outcome State Fault Refusal :=
  dispatch 0x3A (ldaRule a16) s

/-- 0x3E MVI A,d8 (R133). -/
def execMviA (d8 : Byte) (s : State) : Host.Outcome State Fault Refusal :=
  dispatch 0x3E (mviRule (.reg .a) d8) s

/-- 0x40 MOV B,B (R130). -/
def execMovBB (s : State) : Host.Outcome State Fault Refusal :=
  dispatch 0x40 (movRule (.reg .b) (.reg .b)) s

/-- 0x41 MOV B,C (R130). -/
def execMovBC (s : State) : Host.Outcome State Fault Refusal :=
  dispatch 0x41 (movRule (.reg .b) (.reg .c)) s

/-- 0x42 MOV B,D (R130). -/
def execMovBD (s : State) : Host.Outcome State Fault Refusal :=
  dispatch 0x42 (movRule (.reg .b) (.reg .d)) s

/-- 0x43 MOV B,E (R130). -/
def execMovBE (s : State) : Host.Outcome State Fault Refusal :=
  dispatch 0x43 (movRule (.reg .b) (.reg .e)) s

/-- 0x44 MOV B,H (R130). -/
def execMovBH (s : State) : Host.Outcome State Fault Refusal :=
  dispatch 0x44 (movRule (.reg .b) (.reg .h)) s

/-- 0x45 MOV B,L (R130). -/
def execMovBL (s : State) : Host.Outcome State Fault Refusal :=
  dispatch 0x45 (movRule (.reg .b) (.reg .l)) s

/-- 0x46 MOV B,M (R131). -/
def execMovBM (s : State) : Host.Outcome State Fault Refusal :=
  dispatch 0x46 (movRule (.reg .b) .m) s

/-- 0x47 MOV B,A (R130). -/
def execMovBA (s : State) : Host.Outcome State Fault Refusal :=
  dispatch 0x47 (movRule (.reg .b) (.reg .a)) s

/-- 0x48 MOV C,B (R130). -/
def execMovCB (s : State) : Host.Outcome State Fault Refusal :=
  dispatch 0x48 (movRule (.reg .c) (.reg .b)) s

/-- 0x49 MOV C,C (R130). -/
def execMovCC (s : State) : Host.Outcome State Fault Refusal :=
  dispatch 0x49 (movRule (.reg .c) (.reg .c)) s

/-- 0x4A MOV C,D (R130). -/
def execMovCD (s : State) : Host.Outcome State Fault Refusal :=
  dispatch 0x4A (movRule (.reg .c) (.reg .d)) s

/-- 0x4B MOV C,E (R130). -/
def execMovCE (s : State) : Host.Outcome State Fault Refusal :=
  dispatch 0x4B (movRule (.reg .c) (.reg .e)) s

/-- 0x4C MOV C,H (R130). -/
def execMovCH (s : State) : Host.Outcome State Fault Refusal :=
  dispatch 0x4C (movRule (.reg .c) (.reg .h)) s

/-- 0x4D MOV C,L (R130). -/
def execMovCL (s : State) : Host.Outcome State Fault Refusal :=
  dispatch 0x4D (movRule (.reg .c) (.reg .l)) s

/-- 0x4E MOV C,M (R131). -/
def execMovCM (s : State) : Host.Outcome State Fault Refusal :=
  dispatch 0x4E (movRule (.reg .c) .m) s

/-- 0x4F MOV C,A (R130). -/
def execMovCA (s : State) : Host.Outcome State Fault Refusal :=
  dispatch 0x4F (movRule (.reg .c) (.reg .a)) s

/-- 0x50 MOV D,B (R130). -/
def execMovDB (s : State) : Host.Outcome State Fault Refusal :=
  dispatch 0x50 (movRule (.reg .d) (.reg .b)) s

/-- 0x51 MOV D,C (R130). -/
def execMovDC (s : State) : Host.Outcome State Fault Refusal :=
  dispatch 0x51 (movRule (.reg .d) (.reg .c)) s

/-- 0x52 MOV D,D (R130). -/
def execMovDD (s : State) : Host.Outcome State Fault Refusal :=
  dispatch 0x52 (movRule (.reg .d) (.reg .d)) s

/-- 0x53 MOV D,E (R130). -/
def execMovDE (s : State) : Host.Outcome State Fault Refusal :=
  dispatch 0x53 (movRule (.reg .d) (.reg .e)) s

/-- 0x54 MOV D,H (R130). -/
def execMovDH (s : State) : Host.Outcome State Fault Refusal :=
  dispatch 0x54 (movRule (.reg .d) (.reg .h)) s

/-- 0x55 MOV D,L (R130). -/
def execMovDL (s : State) : Host.Outcome State Fault Refusal :=
  dispatch 0x55 (movRule (.reg .d) (.reg .l)) s

/-- 0x56 MOV D,M (R131). -/
def execMovDM (s : State) : Host.Outcome State Fault Refusal :=
  dispatch 0x56 (movRule (.reg .d) .m) s

/-- 0x57 MOV D,A (R130). -/
def execMovDA (s : State) : Host.Outcome State Fault Refusal :=
  dispatch 0x57 (movRule (.reg .d) (.reg .a)) s

/-- 0x58 MOV E,B (R130). -/
def execMovEB (s : State) : Host.Outcome State Fault Refusal :=
  dispatch 0x58 (movRule (.reg .e) (.reg .b)) s

/-- 0x59 MOV E,C (R130). -/
def execMovEC (s : State) : Host.Outcome State Fault Refusal :=
  dispatch 0x59 (movRule (.reg .e) (.reg .c)) s

/-- 0x5A MOV E,D (R130). -/
def execMovED (s : State) : Host.Outcome State Fault Refusal :=
  dispatch 0x5A (movRule (.reg .e) (.reg .d)) s

/-- 0x5B MOV E,E (R130). -/
def execMovEE (s : State) : Host.Outcome State Fault Refusal :=
  dispatch 0x5B (movRule (.reg .e) (.reg .e)) s

/-- 0x5C MOV E,H (R130). -/
def execMovEH (s : State) : Host.Outcome State Fault Refusal :=
  dispatch 0x5C (movRule (.reg .e) (.reg .h)) s

/-- 0x5D MOV E,L (R130). -/
def execMovEL (s : State) : Host.Outcome State Fault Refusal :=
  dispatch 0x5D (movRule (.reg .e) (.reg .l)) s

/-- 0x5E MOV E,M (R131). -/
def execMovEM (s : State) : Host.Outcome State Fault Refusal :=
  dispatch 0x5E (movRule (.reg .e) .m) s

/-- 0x5F MOV E,A (R130). -/
def execMovEA (s : State) : Host.Outcome State Fault Refusal :=
  dispatch 0x5F (movRule (.reg .e) (.reg .a)) s

/-- 0x60 MOV H,B (R130). -/
def execMovHB (s : State) : Host.Outcome State Fault Refusal :=
  dispatch 0x60 (movRule (.reg .h) (.reg .b)) s

/-- 0x61 MOV H,C (R130). -/
def execMovHC (s : State) : Host.Outcome State Fault Refusal :=
  dispatch 0x61 (movRule (.reg .h) (.reg .c)) s

/-- 0x62 MOV H,D (R130). -/
def execMovHD (s : State) : Host.Outcome State Fault Refusal :=
  dispatch 0x62 (movRule (.reg .h) (.reg .d)) s

/-- 0x63 MOV H,E (R130). -/
def execMovHE (s : State) : Host.Outcome State Fault Refusal :=
  dispatch 0x63 (movRule (.reg .h) (.reg .e)) s

/-- 0x64 MOV H,H (R130). -/
def execMovHH (s : State) : Host.Outcome State Fault Refusal :=
  dispatch 0x64 (movRule (.reg .h) (.reg .h)) s

/-- 0x65 MOV H,L (R130). -/
def execMovHL (s : State) : Host.Outcome State Fault Refusal :=
  dispatch 0x65 (movRule (.reg .h) (.reg .l)) s

/-- 0x66 MOV H,M (R131). -/
def execMovHM (s : State) : Host.Outcome State Fault Refusal :=
  dispatch 0x66 (movRule (.reg .h) .m) s

/-- 0x67 MOV H,A (R130). -/
def execMovHA (s : State) : Host.Outcome State Fault Refusal :=
  dispatch 0x67 (movRule (.reg .h) (.reg .a)) s

/-- 0x68 MOV L,B (R130). -/
def execMovLB (s : State) : Host.Outcome State Fault Refusal :=
  dispatch 0x68 (movRule (.reg .l) (.reg .b)) s

/-- 0x69 MOV L,C (R130). -/
def execMovLC (s : State) : Host.Outcome State Fault Refusal :=
  dispatch 0x69 (movRule (.reg .l) (.reg .c)) s

/-- 0x6A MOV L,D (R130). -/
def execMovLD (s : State) : Host.Outcome State Fault Refusal :=
  dispatch 0x6A (movRule (.reg .l) (.reg .d)) s

/-- 0x6B MOV L,E (R130). -/
def execMovLE (s : State) : Host.Outcome State Fault Refusal :=
  dispatch 0x6B (movRule (.reg .l) (.reg .e)) s

/-- 0x6C MOV L,H (R130). -/
def execMovLH (s : State) : Host.Outcome State Fault Refusal :=
  dispatch 0x6C (movRule (.reg .l) (.reg .h)) s

/-- 0x6D MOV L,L (R130). -/
def execMovLL (s : State) : Host.Outcome State Fault Refusal :=
  dispatch 0x6D (movRule (.reg .l) (.reg .l)) s

/-- 0x6E MOV L,M (R131). -/
def execMovLM (s : State) : Host.Outcome State Fault Refusal :=
  dispatch 0x6E (movRule (.reg .l) .m) s

/-- 0x6F MOV L,A (R130). -/
def execMovLA (s : State) : Host.Outcome State Fault Refusal :=
  dispatch 0x6F (movRule (.reg .l) (.reg .a)) s

/-- 0x70 MOV M,B (R132). -/
def execMovMB (s : State) : Host.Outcome State Fault Refusal :=
  dispatch 0x70 (movRule .m (.reg .b)) s

/-- 0x71 MOV M,C (R132). -/
def execMovMC (s : State) : Host.Outcome State Fault Refusal :=
  dispatch 0x71 (movRule .m (.reg .c)) s

/-- 0x72 MOV M,D (R132). -/
def execMovMD (s : State) : Host.Outcome State Fault Refusal :=
  dispatch 0x72 (movRule .m (.reg .d)) s

/-- 0x73 MOV M,E (R132). -/
def execMovME (s : State) : Host.Outcome State Fault Refusal :=
  dispatch 0x73 (movRule .m (.reg .e)) s

/-- 0x74 MOV M,H (R132). -/
def execMovMH (s : State) : Host.Outcome State Fault Refusal :=
  dispatch 0x74 (movRule .m (.reg .h)) s

/-- 0x75 MOV M,L (R132). -/
def execMovML (s : State) : Host.Outcome State Fault Refusal :=
  dispatch 0x75 (movRule .m (.reg .l)) s

/-- 0x77 MOV M,A (R132). -/
def execMovMA (s : State) : Host.Outcome State Fault Refusal :=
  dispatch 0x77 (movRule .m (.reg .a)) s

/-- 0x78 MOV A,B (R130). -/
def execMovAB (s : State) : Host.Outcome State Fault Refusal :=
  dispatch 0x78 (movRule (.reg .a) (.reg .b)) s

/-- 0x79 MOV A,C (R130). -/
def execMovAC (s : State) : Host.Outcome State Fault Refusal :=
  dispatch 0x79 (movRule (.reg .a) (.reg .c)) s

/-- 0x7A MOV A,D (R130). -/
def execMovAD (s : State) : Host.Outcome State Fault Refusal :=
  dispatch 0x7A (movRule (.reg .a) (.reg .d)) s

/-- 0x7B MOV A,E (R130). -/
def execMovAE (s : State) : Host.Outcome State Fault Refusal :=
  dispatch 0x7B (movRule (.reg .a) (.reg .e)) s

/-- 0x7C MOV A,H (R130). -/
def execMovAH (s : State) : Host.Outcome State Fault Refusal :=
  dispatch 0x7C (movRule (.reg .a) (.reg .h)) s

/-- 0x7D MOV A,L (R130). -/
def execMovAL (s : State) : Host.Outcome State Fault Refusal :=
  dispatch 0x7D (movRule (.reg .a) (.reg .l)) s

/-- 0x7E MOV A,M (R131). -/
def execMovAM (s : State) : Host.Outcome State Fault Refusal :=
  dispatch 0x7E (movRule (.reg .a) .m) s

/-- 0x7F MOV A,A (R130). -/
def execMovAA (s : State) : Host.Outcome State Fault Refusal :=
  dispatch 0x7F (movRule (.reg .a) (.reg .a)) s

/-- 0xEB XCHG (R142). -/
def execXchg (s : State) : Host.Outcome State Fault Refusal :=
  dispatch 0xEB xchgRule s

end Sys2Proof.Machine
end

