-- ==== Sys2Proof/Machine/Fetch.lean ====
section
/-! DEFINITION. Fetching an instruction (R107, R109, R110) and the opcode breakpoint test that ends a step (R322). -/

namespace Sys2Proof.Machine

/-- `len(op)` of R110: the instruction's length, or FALLBACK_LEN(op) for an opcode outside IMPL_SET. -/
def fetchLen (g : MachineConfig) (op : Byte) : InstrLen :=
  if implemented g op then opcodeLen op else fallbackLen g op

/-- The fetches of R110: the opcode byte at PC, then the operand bytes at PC+1 and PC+2 modulo 2^16, in that order; the
first that faults ends the step. An operand byte that is not fetched is 0 here; only the fallback, which looks at no
operand, can run then (notes/assumptions/29.md). -/
def fetchInstr (s : State) : Host.Outcome Instr Fault Refusal :=
  andThen (memRead s.pc s) fun op =>
  match fetchLen s.cfg op with
  | .one => .next (decodeOp op 0 0)
  | .two =>
    andThen (memRead (s.pc + 1) s) fun b1 =>
    .next (decodeOp op b1 0)
  | .three =>
    andThen (memRead (s.pc + 1) s) fun b1 =>
    andThen (memRead (s.pc + 2) s) fun b2 =>
    .next (decodeOp op b1 b2)

/-- "Increment step counter" (R46, R110). -/
def countStep (s : State) : State := { s with nsteps := s.nsteps + 1 }

/-- The last act of a step that ends with Next (R110, R322): a notification when the new PC is in BP_OPCODE. Its value
argument is a free value (D38). A step that exits does not test it (R231). PC is final before the callback runs, and
stays so when a read of the callback faults (notes/assumptions/35.md). -/
def opcodeBreakpoint (s : State) : Host.Outcome State Fault Refusal :=
  if s.run = .running ∧ s.bpOpcode.contains s.pc = true ∧ s.cbBkpt = true then
    notify .opcodeReached s.pc (Config.noticeValue s.notices) { s with notices := s.notices + 1 }
  else .next s

/-- One `step()` of R110. In a terminal status it has no effect (R51). -/
def instrStep (s : State) : Host.Outcome State Fault Refusal :=
  if s.run = .running then
    andThen (fetchInstr (countStep s)) fun i =>
    andThen (exec i (countStep s)) opcodeBreakpoint
  else .next s

end Sys2Proof.Machine
end

