-- ==== Sys2Proof/Machine/HostCalls.lean ====
section
/-! DEFINITION. The host's transactions other than step() and interrupt(): set-up (R72, R73, R342), reset (R341),
breakpoints and callbacks (R47, R48), the Memory Map's write between steps (R94), the observations (R60), and the one
function that carries out a call of the queue. -/

namespace Sys2Proof.Machine

/-- `configure(romSize, ramSize, romWriteable, ramMirrored)` (R72): the sizes and flags, and storage that holds SENTINEL
everywhere; a configuration outside R70 is refused (R305). -/
def configure (romSize ramSize : Nat) (romWriteable ramMirrored : Bool) (s : State) :
    Host.Outcome State Fault Refusal :=
  let g := { s.cfg with romSize, ramSize, romWriteable, ramMirrored }
  if g.valid then .next { s with cfg := g, store := [] } else refuse .badConfig s

/-- `load(bytes, atAddress)` (R73): a direct copy, with no fold, no ROM check and no breakpoint (D42); bytes that do not
fit below TOTAL are refused (R305). -/
def load (bytes : List Byte) (atAddress : Nat) (s : State) : Host.Outcome State Fault Refusal :=
  if bytes.isEmpty || decide (atAddress + bytes.length ≤ totalSize s.cfg) then
    .next { s with store := writeBytes s.cfg.sentinel s.store atAddress bytes }
  else refuse (.loadOutOfBounds atAddress bytes.length) s

/-- `init(memoryMap, pcStart)` (R342): PC, NSTEPS and RUN; the rest is left as it is. -/
def init (pcStart : Word) (s : State) : Host.Outcome State Fault Refusal :=
  if s.cfg.valid then .next { s with pc := pcStart, nsteps := 0, run := .running } else refuse .badConfig s

/-- `reset()` (R341): the zero CPU State; everything else is left as it is (D31). -/
def cpuReset (s : State) : State :=
  { s with
    a := 0, b := 0, c := 0, d := 0, e := 0, h := 0, l := 0, sp := 0, pc := 0, ie := false
    flags := { z := false, s := false, p := false, cy := false, ac := false } }

/-- `addBreakpoint(kind, address)` (R47). -/
def addBreakpoint (k : BreakpointKind) (x : Word) (s : State) : State :=
  match k with
  | .memoryWrite => { s with bpWrite := insertAddress x s.bpWrite }
  | .opcodeReached => { s with bpOpcode := insertAddress x s.bpOpcode }

/-- `readMemory(address)` (R60): MemRead with its fold and its fault. -/
def readMemory (x : Word) (s : State) : Host.Outcome Byte Fault Refusal := memRead x s

/-- What `getState()` returns (R60): the CPU State. -/
structure CpuSnapshot where
  a : Byte
  b : Byte
  c : Byte
  d : Byte
  e : Byte
  h : Byte
  l : Byte
  sp : Word
  pc : Word
  flags : Flags
  ie : Bool
  deriving DecidableEq, Repr

/-- `getState()` (R60). -/
def getState (s : State) : CpuSnapshot :=
  { a := s.a, b := s.b, c := s.c, d := s.d, e := s.e, h := s.h, l := s.l
    sp := s.sp, pc := s.pc, flags := s.flags, ie := s.ie }

/-- `getNumSteps()` (R46, R60). -/
def getNumSteps (s : State) : Nat := s.nsteps

/-- Carry out one call of the host. In a terminal status no call has an effect (R51, R300, D30). -/
def hostCall (k : HostCall) (s : State) : Host.Outcome State Fault Refusal :=
  if s.run ≠ .running then .next s
  else
    match k with
    | .step => instrStep s
    | .interrupt n => interrupt n s
    | .reset => .next (cpuReset s)
    | .init pcStart => init pcStart s
    | .addBreakpoint kind x => .next (addBreakpoint kind x s)
    | .setCallbackIn present => .next { s with cbIn := present }
    | .setCallbackOut present => .next { s with cbOut := present }
    | .setCallbackBreakpoint present => .next { s with cbBkpt := present }
    | .load bytes atAddress => load bytes atAddress s
    | .write x v => storeByte x v s
    | .readMemory x => andThen (readMemory x s) fun _ => .next s

/-- What the machine does next: the host's next call, or step() when the queue is empty (notes/assumptions/9.md). -/
def nextTransaction (s : State) : Host.Outcome State Fault Refusal :=
  match s.hostCalls with
  | [] => instrStep s
  | k :: rest => hostCall k { s with hostCalls := rest }

/-- One byte placed directly in storage where a fetch at address `x` reads it; no effect where no byte exists. -/
def placeByte (x : Word) (v : Byte) (s : State) : State :=
  let f := fold s.cfg x
  if f < totalSize s.cfg then { s with store := writeByte s.cfg.sentinel s.store f v } else s

end Sys2Proof.Machine
end

