-- ==== Sys2Proof/Machine/Step.lean ====
section
/-! DEFINITION. One step of the machine, and a state whose very next step runs a given word. -/

namespace Sys2Proof.Machine

/-- One transaction: `step()` of R110, or the call the host makes first (R19, R315). -/
def step (s : State) : Host.Outcome State Fault Refusal := nextTransaction s

/-- `s` with the instruction whose bits are `w` (the first byte in bits 7..0) placed at PC, PC+1 and PC+2, where the
next fetch reads; bits from `nbits` up are 0. The queue is emptied and RUN is Running, so that the next step is this
instruction's. It stands for the host's load (R73, R344; notes/assumptions/5.md). -/
def State.withFetchWord (s : State) (nbits w : Nat) : State :=
  let v := w % 2 ^ nbits
  placeByte s.pc (BitVec.ofNat 8 v)
    (placeByte (s.pc + 1) (BitVec.ofNat 8 (v / 0x100))
      (placeByte (s.pc + 2) (BitVec.ofNat 8 (v / 0x10000)) { s with hostCalls := [], run := .running }))

end Sys2Proof.Machine
end

