-- ==== Sys2Proof/Safety.lean ====
section
/-! DEFINITION. What counts as a safe run, the invariant of the machine, and the words the statements speak of memory
in: the byte an address reads as, where reads and writes are admitted, and the events a write records. -/

namespace Sys2Proof.Machine

/-- The byte MemRead answers at an issued address where it answers one (R76). -/
def byteAt (s : State) (x : Word) : Byte := readByte s.cfg.sentinel s.store (fold s.cfg x)

/-- A read at `x` does not fault: the folded address is below TOTAL (R75, R76). -/
def Readable (s : State) (x : Word) : Prop := fold s.cfg x < totalSize s.cfg

/-- A write at `x` does not fault: below TOTAL, and not in protected ROM (R77, R78). -/
def Writable (s : State) (x : Word) : Prop :=
  fold s.cfg x < totalSize s.cfg ∧ (s.cfg.romSize ≤ fold s.cfg x ∨ s.cfg.romWriteable = true)

/-- A write at `x` notifies: the issued address is in BP_WRITE and the callback is present (R321, R323). -/
def notifies (s : State) (x : Word) : Bool := s.bpWrite.contains x && s.cbBkpt

/-- The notification a write makes first, where it makes one (R321). -/
def writeNotice (s : State) (x : Word) (v : Byte) : List Event :=
  if notifies s x then [.breakpoint .memoryWrite x v] else []

/-- What is left of `bpReads` after a write at `x` has notified or not (R321, R335). -/
def readsLeft (s : State) (x : Word) : List (List Word) :=
  if notifies s x then s.bpReads.tail else s.bpReads

/-- A write at `x` makes no notification, or one whose callback reads nothing out of bounds (R321, R335). -/
def CallbackInBounds (s : State) (x : Word) : Prop :=
  notifies s x = true → ∀ r ∈ s.bpReads.headD [], Readable s r

/-- The events of one admitted write, the newest first: the write itself, and before it the notification (R53, R77). -/
def writeEvents (s : State) (x : Word) (v : Byte) : List Event := .memWrite x v :: writeNotice s x v

/-- A transaction that neither faults (R300) nor is refused (R305). -/
def Completes (o : Host.Outcome State Fault Refusal) : Prop := ∃ t, o = .next t

/-- A run of `n` transactions none of which faults or is refused. -/
def SafeRun : Nat → State → Prop
  | 0, _ => True
  | n + 1, s => ∃ t, step s = .next t ∧ SafeRun n t

/-- The invariant of the plain data: the configuration is one the spec admits (R11, R70, R72, R231), the storage is in
canonical form within TOTAL (R50, R72), and the breakpoint sets are strictly rising (R47). -/
structure Inv (s : State) : Prop where
  config : s.cfg.valid = true
  canonical : Memory.wf s.cfg.sentinel s.store = true
  within : Memory.within (totalSize s.cfg) s.store = true
  writeSet : rising (s.bpWrite.map (·.toNat)) = true
  opcodeSet : rising (s.bpOpcode.map (·.toNat)) = true

end Sys2Proof.Machine
end

