-- ==== Sys2Proof/Certificates/Slice0/Obligations.lean ====
section
/-! DEFINITION. The statements for the provers. First the words they are written in (namespace Sys2Proof.Claims): results
and flags restated from the spec in terms of numbers, and what one read or one write of a rule does, its fault
included, so that a statement is the rule's pseudocode with every outcome. Then one `Obligations.<Name>` each. -/

open Sys2Proof Sys2Proof.Machine

namespace Sys2Proof.Claims

/-- The answers of a transaction. -/
abbrev Answer := Host.Outcome State Fault Refusal

/-- The opcode of `i` is in IMPL_SET, so that its own rule runs (R111). -/
def Runs (i : Instr) (s : State) : Prop := implemented s.cfg i.opcode = true

/-- `i` is encoded as these bytes, the opcode byte first. -/
def EncodedAs (i : Instr) (bytes : List Byte) : Prop := encode i = bytes

/-- `s` after the fallback at `i` (R272): a report, and PC + FALLBACK_LEN. -/
def skipped (i : Instr) (s : State) : State :=
  { s with
    pc := s.pc + BitVec.ofNat 16 (fallbackLen s.cfg i.opcode).bytes
    trace := .unimplemented s.pc i.opcode :: s.trace }

/-- The number of 1 bits, by counting them. -/
def onesIn (v : Byte) : Nat := ((List.range 8).filter fun k => v.toNat / 2 ^ k % 2 = 1).length

/-- The flags after a result `r` with carry `cy` (R17): Z, S, P from `r`, CY as given, AC kept. -/
def resultFlags (r : Byte) (cy : Bool) (f : Flags) : Flags where
  z := decide (r.toNat = 0)
  s := decide (128 ≤ r.toNat)
  p := decide (onesIn r % 2 = 0)
  cy := cy
  ac := f.ac

/-- The truth of a condition by its suffix (R105). -/
def conditionTrue : Cond → Flags → Bool
  | .nz, f => f.z == false
  | .z, f => f.z == true
  | .nc, f => f.cy == false
  | .c, f => f.cy == true
  | .po, f => f.p == false
  | .pe, f => f.p == true
  | .p, f => f.s == false
  | .m, f => f.s == true

/-- The flag byte, bit0=Z, bit1=S, bit2=P, bit3=CY, bit4=AC, the rest 0 (R41). -/
def flagByte (f : Flags) : Byte :=
  BitVec.ofNat 8 (f.z.toNat + 2 * f.s.toNat + 4 * f.p.toNat + 8 * f.cy.toNat + 16 * f.ac.toNat)

/-- The flags in bits 0 to 4 of a byte (R41, R42). -/
def flagsIn (v : Byte) : Flags where
  z := decide (v.toNat % 2 = 1)
  s := decide (v.toNat / 2 % 2 = 1)
  p := decide (v.toNat / 4 % 2 = 1)
  cy := decide (v.toNat / 8 % 2 = 1)
  ac := decide (v.toNat / 16 % 2 = 1)

/-- The word whose high byte is `hi` and whose low byte is `lo` (R13). -/
def wordOf (hi lo : Byte) : Word := BitVec.ofNat 16 (hi.toNat * 256 + lo.toNat)

/-- Bits 15:8 of a word. -/
def highOf (v : Word) : Byte := BitVec.ofNat 8 (v.toNat / 256)

/-- Bits 7:0 of a word. -/
def lowOf (v : Word) : Byte := BitVec.ofNat 8 v.toNat

/-- How a faulting read ends (R76, R300, R301, R307): the state as it is, with RUN = Faulted. -/
def readFault (x : Word) (s : State) : Answer :=
  .fault (.memReadOutOfBounds x (fold s.cfg x)
    { s with run := .faulted (.memReadOutOfBounds x (fold s.cfg x)) })

/-- `s` after the notification of a write at `x`, where the write makes one (R321): the event, and the callback's reads
used up. -/
def noticed (x : Word) (v : Byte) (s : State) : State :=
  { s with trace := writeNotice s x v ++ s.trace, bpReads := readsLeft s x }

/-- The first of the addresses a callback reads that is out of bounds. -/
def firstOutOfBounds (s : State) (reads : List Word) : Option Word :=
  reads.find? fun r => decide (totalSize s.cfg ≤ fold s.cfg r)

/-- The first out-of-bounds read of the callback that a write at `x` notifies, where it notifies one. -/
def callbackFault (x : Word) (s : State) : Option Word :=
  if notifies s x then firstOutOfBounds s (s.bpReads.headD []) else none

/-- How a faulting write ends (R77, R300, R302, R303, R307, R321): the notification made, nothing stored, RUN = Faulted;
out of bounds when the folded address is not below TOTAL, else protected ROM. -/
def writeFault (x : Word) (v : Byte) (s : State) : Answer :=
  if totalSize s.cfg ≤ fold s.cfg x then
    .fault (.memWriteOutOfBounds x (fold s.cfg x) v
      { noticed x v s with run := .faulted (.memWriteOutOfBounds x (fold s.cfg x) v) })
  else
    .fault (.romWriteProtected x (fold s.cfg x) v
      { noticed x v s with run := .faulted (.romWriteProtected x (fold s.cfg x) v) })

/-- "`v <- MemRead(x, 1)`; then `k v`" as a rule whose answer is `o`: where the read is admitted, `k` of the byte there
says the rest; where it is not, the answer is the fault, from the state `s` reached so far. -/
def ReadThen (x : Word) (s : State) (o : Answer) (k : Byte → Prop) : Prop :=
  (Readable s x → k (byteAt s x)) ∧ (¬ Readable s x → o = readFault x s)

/-- The storage `m` is that of `s` with `v` at the byte `x` folds to, and every other byte as before. -/
def StoresOnly (x : Word) (v : Byte) (s : State) (m : Memory) : Prop :=
  ∀ i, readByte s.cfg.sentinel m i = if i = fold s.cfg x then v else readByte s.cfg.sentinel s.store i

/-- "`MemWrite(x, 1, v)`; then the rest" as a rule whose answer is `o`: where the callback it notifies reads out of
bounds (R335), the answer is that read's fault; else, where the write is admitted, `k` of the state after it says the
rest, a state that is `s` but for the one byte stored, the events of the write and the callback's reads used up; where
it is not admitted, the answer is the write's fault. -/
def WriteThen (x : Word) (v : Byte) (s : State) (o : Answer) (k : State → Prop) : Prop :=
  match callbackFault x s with
  | some r => o = readFault r (noticed x v s)
  | none =>
    (Writable s x → ∃ m, StoresOnly x v s m ∧
      k { s with store := m, trace := writeEvents s x v ++ s.trace, bpReads := readsLeft s x }) ∧
    (¬ Writable s x → o = writeFault x v s)

/-- "`v <- reg8(r)`; then `k v`" (R103). -/
def OperandThen (r : Operand8) (s : State) (o : Answer) (k : Byte → Prop) : Prop :=
  match r with
  | .reg q => k (getReg q s)
  | .m => ReadThen (wordOf s.h s.l) s o k

/-- "`push16(v)`; then the rest" (R210): the high byte at SP-1, the low byte at SP-2, then SP. -/
def PushThen (v : Word) (s : State) (o : Answer) (k : State → Prop) : Prop :=
  WriteThen (s.sp - 1) (highOf v) s o fun t =>
  WriteThen (s.sp - 2) (lowOf v) t o fun u =>
  k { u with sp := s.sp - 2 }

/-- "`v <- pop16()`; then the rest" (R210): the low byte at SP, the high byte at SP+1, then SP. -/
def PopThen (s : State) (o : Answer) (k : Byte → Byte → State → Prop) : Prop :=
  ReadThen s.sp s o fun lo =>
  ReadThen (s.sp + 1) s o fun hi =>
  k hi lo { s with sp := s.sp + 2 }

/-- `s` with the sum of A, `v` and a carry in, and its flags (R150): CY says whether the sum exceeds 0xFF. -/
def added (carryIn : Bool) (v : Byte) (s : State) : State :=
  let sum := s.a.toNat + v.toNat + carryIn.toNat
  { s with
    a := BitVec.ofNat 8 sum
    flags := resultFlags (BitVec.ofNat 8 sum) (decide (0xFF < sum)) s.flags }

/-- A minus `v` minus a borrow in, modulo 256. -/
def difference (borrowIn : Bool) (v : Byte) (s : State) : Byte :=
  BitVec.ofNat 8 (s.a.toNat + 256 * 2 - v.toNat - borrowIn.toNat)

/-- The flags of a subtraction (R150): "CY after a subtraction is the borrow", which holds when A < v + borrow in. -/
def differenceFlags (borrowIn : Bool) (v : Byte) (s : State) : Flags :=
  resultFlags (difference borrowIn v s) (decide (s.a.toNat < v.toNat + borrowIn.toNat)) s.flags

/-- `s` with the difference in A, and its flags. -/
def subtracted (borrowIn : Bool) (v : Byte) (s : State) : State :=
  { s with a := difference borrowIn v s, flags := differenceFlags borrowIn v s }

/-- `s` with a logical result in A, its flags, and CY = 0 (R180). -/
def logicalResult (r : Byte) (s : State) : State := { s with a := r, flags := resultFlags r false s.flags }

/-- `s` with a rotate's result: A and CY, no other flag. -/
def rotated (r : Nat) (out : Bool) (s : State) : State :=
  { s with a := BitVec.ofNat 8 r, flags := { s.flags with cy := out } }

/-- The rows that write a flag (R43). -/
def WritesFlags (i : Instr) : Prop :=
  (∃ op r, i = aluForm op r) ∨ (∃ op d8, i = aluImmForm op d8) ∨ (∃ r, i = inrForm r) ∨ (∃ r, i = dcrForm r) ∨
  (∃ p, i = dadForm p) ∨ i ∈ [.inrM, .dcrM, .daa, .rlc, .rrc, .ral, .rar, .stc, .cmc, .popPsw]

/-- The state a fault leaves. -/
def faultState : Fault → State
  | .memReadOutOfBounds _ _ t => t
  | .memWriteOutOfBounds _ _ _ t => t
  | .romWriteProtected _ _ _ t => t

/-- What a fault records (R301 to R303). -/
def faultInfo : Fault → FaultInfo
  | .memReadOutOfBounds x f _ => .memReadOutOfBounds x f
  | .memWriteOutOfBounds x f v _ => .memWriteOutOfBounds x f v
  | .romWriteProtected x f v _ => .romWriteProtected x f v

/-- Whether an event is a breakpoint notification. -/
def isNotice : Event → Bool
  | .breakpoint _ _ _ => true
  | _ => false

/-- `s` with no breakpoint, no breakpoint callback and nothing for it to read, and no notification in its trace. -/
def hideBreakpoints (s : State) : State :=
  { s with
    bpWrite := [], bpOpcode := [], cbBkpt := false, notices := 0, bpReads := []
    trace := s.trace.filter fun e => !isNotice e }

/-- An answer with `hideBreakpoints` applied to the state it holds. -/
def hideInAnswer : Answer → Answer
  | .next t => .next (hideBreakpoints t)
  | .fault (.memReadOutOfBounds x f t) => .fault (.memReadOutOfBounds x f (hideBreakpoints t))
  | .fault (.memWriteOutOfBounds x f v t) => .fault (.memWriteOutOfBounds x f v (hideBreakpoints t))
  | .fault (.romWriteProtected x f v t) => .fault (.romWriteProtected x f v (hideBreakpoints t))
  | .refused (.notModelled m) => .refused (.notModelled m)
  | .refused (.haltUnmodelled pc t) => .refused (.haltUnmodelled pc (hideBreakpoints t))
  | .refused (.diagUnterminated de t) => .refused (.diagUnterminated de (hideBreakpoints t))
  | .refused (.badVector n t) => .refused (.badVector n (hideBreakpoints t))
  | .refused (.badConfig t) => .refused (.badConfig (hideBreakpoints t))
  | .refused (.loadOutOfBounds x n t) => .refused (.loadOutOfBounds x n (hideBreakpoints t))

end Sys2Proof.Claims

open Sys2Proof.Claims

/-! ### Reset, set-up and the host -/

/-- R340: a newly constructed machine is all zero, with no breakpoints, no callbacks and NSTEPS = 0. -/
def Obligations.ResetStateIsZero : Prop :=
  let s := State.reset
  (s.a = 0 ∧ s.b = 0 ∧ s.c = 0 ∧ s.d = 0 ∧ s.e = 0 ∧ s.h = 0 ∧ s.l = 0 ∧ s.sp = 0 ∧ s.pc = 0) ∧
  (s.flags.z = false ∧ s.flags.s = false ∧ s.flags.p = false ∧ s.flags.cy = false ∧ s.flags.ac = false) ∧
  s.ie = false ∧ s.bpWrite = [] ∧ s.bpOpcode = [] ∧ s.cbIn = false ∧ s.cbOut = false ∧ s.cbBkpt = false ∧ s.nsteps = 0

/-- R341 and R342: reset() writes the zero CPU State and nothing else, and in a terminal status does not restart the run;
init() sets PC, NSTEPS and RUN and nothing else. -/
def Obligations.HostResetAndInit : Prop :=
  (∀ s, s.run = .running →
    hostCall .reset s = .next { s with
      a := 0, b := 0, c := 0, d := 0, e := 0, h := 0, l := 0, sp := 0, pc := 0, ie := false
      flags := { z := false, s := false, p := false, cy := false, ac := false } }) ∧
  (∀ s, s.run ≠ .running → hostCall .reset s = .next s) ∧
  (∀ s pcStart, s.cfg.valid = true → init pcStart s = .next { s with pc := pcStart, nsteps := 0, run := .running })

/-- R72, R73: configure() sets the four parameters and fills storage with SENTINEL; load() copies its bytes from `atAddress`
up, with no fold, no check of ROM and no notification, and changes no other byte; a load that does not fit is refused. -/
def Obligations.SetUpFillsStorage : Prop :=
  (∀ s rom ram w m,
    let g := { s.cfg with romSize := rom, ramSize := ram, romWriteable := w, ramMirrored := m }
    g.valid = true → ∃ store, configure rom ram w m s = .next { s with cfg := g, store := store } ∧
      ∀ i, readByte g.sentinel store i = g.sentinel) ∧
  (∀ s bytes atAddress,
    (atAddress + bytes.length ≤ totalSize s.cfg → ∃ store, load bytes atAddress s = .next { s with store := store } ∧
      ∀ i, readByte s.cfg.sentinel store i =
        if atAddress ≤ i ∧ i < atAddress + bytes.length then bytes.getD (i - atAddress) 0
        else readByte s.cfg.sentinel s.store i) ∧
    (bytes ≠ [] → totalSize s.cfg < atAddress + bytes.length →
      load bytes atAddress s = .refused (.loadOutOfBounds atAddress bytes.length
        { s with run := .refused (.loadOutOfBounds atAddress bytes.length) })))

/-- R70, R305, R231, with the model's choice of notes/assumptions/31.md: configure() and init() refuse a configuration
with TOTAL outside 1 to 0x10000, with mirroring and no RAM, or with DIAG_VECTOR = 0x0000, and any other the model does not
admit. -/
def Obligations.IllFormedConfigurationsAreRefused : Prop :=
  (∀ g : MachineConfig,
    g.romSize + g.ramSize = 0 ∨ 0x10000 < g.romSize + g.ramSize ∨ (g.ramMirrored = true ∧ g.ramSize = 0) ∨
      g.diagVector = 0 → g.valid = false) ∧
  (∀ s pcStart, s.cfg.valid = false →
    init pcStart s = .refused (.badConfig { s with run := .refused .badConfig })) ∧
  (∀ s rom ram w m,
    { s.cfg with romSize := rom, ramSize := ram, romWriteable := w, ramMirrored := m }.valid = false →
    configure rom ram w m s = .refused (.badConfig { s with run := .refused .badConfig }))

/-- R47, R48: addBreakpoint adds the address to the set of its kind and changes nothing else; the callback settings set
presence and change nothing else. -/
def Obligations.HostSetsBreakpointsAndCallbacks : Prop :=
  (∀ s x, s.run = .running → ∃ set, hostCall (.addBreakpoint .memoryWrite x) s = .next { s with bpWrite := set } ∧
    ∀ y, y ∈ set ↔ y = x ∨ y ∈ s.bpWrite) ∧
  (∀ s x, s.run = .running → ∃ set, hostCall (.addBreakpoint .opcodeReached x) s = .next { s with bpOpcode := set } ∧
    ∀ y, y ∈ set ↔ y = x ∨ y ∈ s.bpOpcode) ∧
  (∀ s b, s.run = .running →
    hostCall (.setCallbackIn b) s = .next { s with cbIn := b } ∧
    hostCall (.setCallbackOut b) s = .next { s with cbOut := b } ∧
    hostCall (.setCallbackBreakpoint b) s = .next { s with cbBkpt := b })

/-! ### The memory map -/

/-- R74: the fold subtracts RAM_SIZE while the address is at least TOTAL. Mirrored: an address below TOTAL is itself; one
that is not ends below TOTAL and at or above ROM_SIZE, a whole number of RAM_SIZEs lower. Unmirrored: the identity. -/
def Obligations.FoldSubtractsRamPeriod : Prop :=
  ∀ (g : MachineConfig) (x : Word),
    (g.ramMirrored = false → fold g x = x.toNat) ∧
    (g.ramMirrored = true → 1 ≤ g.ramSize →
      fold g x < totalSize g ∧
      (x.toNat < totalSize g → fold g x = x.toNat) ∧
      (totalSize g ≤ x.toNat → g.romSize ≤ fold g x ∧ ∃ k, 1 ≤ k ∧ x.toNat = fold g x + k * g.ramSize))

/-- R79: with mirroring, `TOTAL + k` and `ROM_SIZE + k` are the same byte, for reads and for writes; the one difference is
the issued address that an instruction's write records and notifies (under mirroring no read of the callback is out of
bounds). -/
def Obligations.MirroredAddressesShareByte : Prop :=
  ∀ (s : State) (k : Nat) (x y : Word) (v : Byte),
    s.cfg.ramMirrored = true → k < s.cfg.ramSize → x.toNat = totalSize s.cfg + k → y.toNat = s.cfg.romSize + k →
    (∃ b, memRead x s = .next b ∧ memRead y s = .next b) ∧
    (∀ t, storeByte x v s = .next t ↔ storeByte y v s = .next t) ∧
    (∀ t, memWrite x v s = .next t →
      memWrite y v s = .next { t with trace := writeEvents s y v ++ s.trace, bpReads := readsLeft s y })

/-- R76: a read folds, faults when the result is not below TOTAL, and else answers the stored byte. -/
def Obligations.MemReadFollowsRule : Prop :=
  ∀ (s : State) (x : Word),
    (fold s.cfg x < totalSize s.cfg →
      memRead x s = .next (readByte s.cfg.sentinel s.store (fold s.cfg x))) ∧
    (totalSize s.cfg ≤ fold s.cfg x →
      memRead x s = .fault (.memReadOutOfBounds x (fold s.cfg x)
        { s with run := .faulted (.memReadOutOfBounds x (fold s.cfg x)) }))

/-- R77, R321: a write notifies, folds, faults out of bounds or in protected ROM, and else stores its one byte; a callback
that reads out of bounds (R335) ends it first, with nothing stored. -/
def Obligations.MemWriteFollowsRule : Prop :=
  ∀ (s : State) (x : Word) (v : Byte),
    WriteThen x v s (memWrite x v s) fun t => memWrite x v s = .next t

/-- R78: while ROM_WRITEABLE is false no instruction and no interrupt entry changes a byte of ROM. -/
def Obligations.ProtectedRomNeverChanges : Prop :=
  ∀ (s t : State), s.cfg.romWriteable = false →
    (instrStep s = .next t ∨ ∃ n, interrupt n s = .next t) →
    ∀ i, i < s.cfg.romSize → readByte t.cfg.sentinel t.store i = readByte s.cfg.sentinel s.store i

/-! ### Encoding -/

/-- Decoding an instruction's encoding, whatever bytes follow, gives it back with every operand and leaves those bytes. -/
def Obligations.DecodeEncodeRoundTrip : Prop :=
  ∀ (i : Instr) (rest : List Byte), decode (encode i ++ rest) = .ok (i, rest)

/-- Bytes that decode are the encoding of what they decode to, followed by what is left over; bytes that do not decode
are too few: none at all, or fewer than the length R109 gives their opcode byte. -/
def Obligations.DecodedBytesAreTheEncoding : Prop :=
  (∀ (bytes rest : List Byte) (i : Instr), decode bytes = .ok (i, rest) → bytes = encode i ++ rest) ∧
  (∀ (bytes : List Byte) (e : DecodeError), decode bytes = .error e →
    bytes = [] ∨ ∃ op more, bytes = op :: more ∧ bytes.length < (opcodeLen op).bytes)

/-- R102, R103 to R106: each opcode layout decodes to the instruction its fields name, for every value of the fields. -/
def Obligations.OpcodeFieldLayouts : Prop :=
  (∀ (d r : Reg8) (b1 b2 : Byte), decodeOp (0b01#2 ++ d.code ++ r.code) b1 b2 = movForm d r) ∧
  (∀ (r : Reg8) (b1 b2 : Byte), decodeOp (0b01#2 ++ r.code ++ 0b110#3) b1 b2 = movFromM r ∧
    decodeOp (0b01110#5 ++ r.code) b1 b2 = movToM r) ∧
  (∀ (op : AluOp) (r : Operand8) (b1 b2 : Byte), decodeOp (0b10#2 ++ op.code ++ r.code) b1 b2 = aluForm op r) ∧
  (∀ (op : AluOp) (b1 b2 : Byte), decodeOp (0b11#2 ++ op.code ++ 0b110#3) b1 b2 = aluImmForm op b1) ∧
  (∀ (r : Reg8) (b1 b2 : Byte), decodeOp (0b00#2 ++ r.code ++ 0b110#3) b1 b2 = mviForm r b1 ∧
    decodeOp (0b00#2 ++ r.code ++ 0b100#3) b1 b2 = inrForm r ∧
    decodeOp (0b00#2 ++ r.code ++ 0b101#3) b1 b2 = dcrForm r) ∧
  (∀ (p : Pair) (b1 b2 : Byte), decodeOp (0b00#2 ++ p.code ++ 0b0001#4) b1 b2 = lxiForm p (wordOf b2 b1) ∧
    decodeOp (0b00#2 ++ p.code ++ 0b1001#4) b1 b2 = dadForm p ∧
    decodeOp (0b00#2 ++ p.code ++ 0b0011#4) b1 b2 = inxForm p ∧
    decodeOp (0b00#2 ++ p.code ++ 0b1011#4) b1 b2 = dcxForm p) ∧
  (∀ (p : IndexPair) (b1 b2 : Byte), decodeOp (0b000#3 ++ p.code ++ 0b0010#4) b1 b2 = staxForm p ∧
    decodeOp (0b000#3 ++ p.code ++ 0b1010#4) b1 b2 = ldaxForm p) ∧
  (∀ (k : Cond) (b1 b2 : Byte), decodeOp (0b11#2 ++ k.code ++ 0b000#3) b1 b2 = rccForm k ∧
    decodeOp (0b11#2 ++ k.code ++ 0b010#3) b1 b2 = jccForm k (wordOf b2 b1) ∧
    decodeOp (0b11#2 ++ k.code ++ 0b100#3) b1 b2 = cccForm k (wordOf b2 b1)) ∧
  (∀ (n : Fin 8) (b1 b2 : Byte), decodeOp (0b11#2 ++ BitVec.ofNat 3 n ++ 0b111#3) b1 b2 = rstForm n) ∧
  (∀ (p : StackPair) (b1 b2 : Byte), decodeOp (0b11#2 ++ p.code ++ 0b0101#4) b1 b2 = pushForm p ∧
    decodeOp (0b11#2 ++ p.code ++ 0b0001#4) b1 b2 = popForm p) ∧
  (∀ (b1 b2 : Byte),
    decodeOp 0b00110110 b1 b2 = .mviM b1 ∧ decodeOp 0b00110100 b1 b2 = .inrM ∧ decodeOp 0b00110101 b1 b2 = .dcrM ∧
    decodeOp 0b00100010 b1 b2 = .shld (wordOf b2 b1) ∧ decodeOp 0b00101010 b1 b2 = .lhld (wordOf b2 b1) ∧
    decodeOp 0b00110010 b1 b2 = .sta (wordOf b2 b1) ∧ decodeOp 0b00111010 b1 b2 = .lda (wordOf b2 b1) ∧
    decodeOp 0b00000111 b1 b2 = .rlc ∧ decodeOp 0b00001111 b1 b2 = .rrc ∧ decodeOp 0b00010111 b1 b2 = .ral ∧
    decodeOp 0b00011111 b1 b2 = .rar ∧ decodeOp 0b00100111 b1 b2 = .daa ∧ decodeOp 0b00101111 b1 b2 = .cma ∧
    decodeOp 0b00110111 b1 b2 = .stc ∧ decodeOp 0b00111111 b1 b2 = .cmc ∧
    decodeOp 0b11110101 b1 b2 = .pushPsw ∧ decodeOp 0b11110001 b1 b2 = .popPsw ∧
    decodeOp 0b11000011 b1 b2 = .jmp (wordOf b2 b1) ∧ decodeOp 0b11001101 b1 b2 = .call (wordOf b2 b1) ∧
    decodeOp 0b11001001 b1 b2 = .ret ∧ decodeOp 0b11010011 b1 b2 = .outPort b1 ∧
    decodeOp 0b11011011 b1 b2 = .inPort b1 ∧ decodeOp 0b11100011 b1 b2 = .xthl ∧ decodeOp 0b11101001 b1 b2 = .pchl ∧
    decodeOp 0b11101011 b1 b2 = .xchg ∧ decodeOp 0b11111001 b1 b2 = .sphl ∧ decodeOp 0b11110011 b1 b2 = .di ∧
    decodeOp 0b11111011 b1 b2 = .ei ∧ decodeOp 0b00000000 b1 b2 = .nop ∧ decodeOp 0b01110110 b1 b2 = .hlt) ∧
  (∀ (b1 b2 : Byte),
    decodeOp 0x08 b1 b2 = .nop08 ∧ decodeOp 0x10 b1 b2 = .nop10 ∧ decodeOp 0x18 b1 b2 = .nop18 ∧
    decodeOp 0x20 b1 b2 = .nop20 ∧ decodeOp 0x28 b1 b2 = .nop28 ∧ decodeOp 0x30 b1 b2 = .nop30 ∧
    decodeOp 0x38 b1 b2 = .nop38 ∧ decodeOp 0xCB b1 b2 = .jmpCB (wordOf b2 b1) ∧ decodeOp 0xD9 b1 b2 = .retD9 ∧
    decodeOp 0xDD b1 b2 = .callDD (wordOf b2 b1) ∧ decodeOp 0xED b1 b2 = .callED (wordOf b2 b1) ∧
    decodeOp 0xFD b1 b2 = .callFD (wordOf b2 b1))

/-- R108, the source-attested entries: the byte strings of the source decode to the instructions it names. -/
def Obligations.SourceBytesDecode : Prop :=
  decode [0x3E, 0x05] = .ok (.mviA 5, []) ∧
  decode [0x06, 0x01, 0x04] = .ok (.mviB 1, [0x04]) ∧
  decode [0x04] = .ok (.inrB, []) ∧
  decode [0xC3, 0x00, 0x10] = .ok (.jmp 0x1000, []) ∧
  decode [0xCD, 0x00, 0x10] = .ok (.call 0x1000, [])

/-! ### The step -/

/-- R110: with no host call waiting, a running machine whose bytes at PC are the encoding of an implemented instruction
counts the step, runs the instruction, and tests the opcode breakpoint on a next state that is still running; the
callback it notifies may read (R335), and a read out of bounds ends the step (notes/assumptions/35.md). -/
def Obligations.StepRunsDecodedInstruction : Prop :=
  ∀ (s : State) (i : Instr), s.hostCalls = [] → s.run = .running → Runs i s →
    (∀ k, k < (encode i).length → Readable s (s.pc + BitVec.ofNat 16 k) ∧
      byteAt s (s.pc + BitVec.ofNat 16 k) = (encode i).getD k 0) →
    step s =
      match exec i { s with nsteps := s.nsteps + 1 } with
      | .next t =>
        if t.run = .running ∧ t.pc ∈ t.bpOpcode ∧ t.cbBkpt = true then
          let u := { t with
            trace := .breakpoint .opcodeReached t.pc (Config.noticeValue t.notices) :: t.trace
            notices := t.notices + 1
            bpReads := t.bpReads.tail }
          match firstOutOfBounds t (t.bpReads.headD []) with
          | some r => readFault r u
          | none => .next u
        else .next t
      | o => o

/-- R110, R272: at an opcode outside IMPL_SET whose FALLBACK_LEN bytes can be fetched, the step reports it and advances
PC by FALLBACK_LEN; the opcode breakpoint test runs as in any step (here: no breakpoint at the new PC). -/
def Obligations.StepFallsBackOutsideImplSet : Prop :=
  ∀ (s : State), s.hostCalls = [] → s.run = .running → implemented s.cfg (byteAt s s.pc) = false →
    (∀ k, k < (fallbackLen s.cfg (byteAt s s.pc)).bytes → Readable s (s.pc + BitVec.ofNat 16 k)) →
    s.pc + BitVec.ofNat 16 (fallbackLen s.cfg (byteAt s s.pc)).bytes ∉ s.bpOpcode →
    step s = .next { s with
      nsteps := s.nsteps + 1
      pc := s.pc + BitVec.ofNat 16 (fallbackLen s.cfg (byteAt s s.pc)).bytes
      trace := .unimplemented s.pc (byteAt s s.pc) :: s.trace }

/-- R272, R273, for every instruction: outside IMPL_SET it changes nothing but PC, by FALLBACK_LEN, and reports; the
default of FALLBACK_LEN is the instruction's own length, and 1 for the twelve aliases. -/
def Obligations.FallbackChangesOnlyPc : Prop :=
  (∀ (i : Instr) (s : State), implemented s.cfg i.opcode = false →
    exec i s = .next (skipped i s)) ∧
  (∀ (i : Instr) (g : MachineConfig), (∀ n, (i.opcode, n) ∉ g.fallbackLens) →
    (fallbackLen g i.opcode).bytes =
      if i.opcode ∈ [0x08, 0x10, 0x18, 0x20, 0x28, 0x30, 0x38, 0xCB, 0xD9, 0xDD, 0xED, 0xFD] then 1
      else (encode i).length)

/-- R110, R301, R307: a fetch that faults, of the opcode or of an operand byte, ends the step with PC not advanced; the
step has been counted. -/
def Obligations.FetchFaultEndsStep : Prop :=
  ∀ (s : State), s.hostCalls = [] → s.run = .running →
    (¬ Readable s s.pc → step s = readFault s.pc { s with nsteps := s.nsteps + 1 }) ∧
    (∀ k, 1 ≤ k → k < (fetchLen s.cfg (byteAt s s.pc)).bytes →
      (∀ j, j < k → Readable s (s.pc + BitVec.ofNat 16 j)) → ¬ Readable s (s.pc + BitVec.ofNat 16 k) →
      step s = readFault (s.pc + BitVec.ofNat 16 k) { s with nsteps := s.nsteps + 1 })

/-- R51: in a status other than Running, step() and interrupt() have no effect. -/
def Obligations.TerminalStatusIsFinal : Prop :=
  ∀ (s : State), s.run ≠ .running → instrStep s = .next s ∧ ∀ n, interrupt n s = .next s

/-- The model's choice of notes/assumptions/9.md and 31.md: the call that stands first in the queue is made, and is then
gone; in a terminal status it has no other effect. -/
def Obligations.HostCallsComeFirst : Prop :=
  ∀ (s : State) (rest : List HostCall),
    (s.run = .running →
      (s.hostCalls = .step :: rest → step s = instrStep { s with hostCalls := rest }) ∧
      (∀ n, s.hostCalls = .interrupt n :: rest → step s = interrupt n { s with hostCalls := rest }) ∧
      (∀ x v, s.hostCalls = .write x v :: rest → step s = storeByte x v { s with hostCalls := rest })) ∧
    (s.run ≠ .running → ∀ c, s.hostCalls = c :: rest → step s = .next { s with hostCalls := rest })

/-! ### Data transfer -/

/-- R31: a pair reads high byte first, and writing a pair writes its two registers and nothing else; SP is whole. -/
def Obligations.RegisterPairsAreViews : Prop :=
  ∀ (s : State) (v : Word),
    (getPair .bc s = wordOf s.b s.c ∧ getPair .de s = wordOf s.d s.e ∧ getPair .hl s = wordOf s.h s.l ∧
      getPair .sp s = s.sp) ∧
    (setPair .bc v s = { s with b := highOf v, c := lowOf v } ∧
      setPair .de v s = { s with d := highOf v, e := lowOf v } ∧
      setPair .hl v s = { s with h := highOf v, l := lowOf v } ∧ setPair .sp v s = { s with sp := v }) ∧
    (∀ p, getPair p (setPair p v s) = v) ∧ (∀ p, setPair p (getPair p s) s = s)

/-- R130: MOV r1,r2, all 49 rows. -/
def Obligations.MovBetweenRegisters : Prop :=
  ∀ (d r : Reg8),
    EncodedAs (movForm d r) [0b01#2 ++ d.code ++ r.code] ∧
    ∀ (s : State), Runs (movForm d r) s →
      exec (movForm d r) s = .next { setReg d (getReg r s) s with pc := s.pc + 1 } ∧
      ∀ q, getReg q (setReg d (getReg r s) s) = if q = d then getReg r s else getReg q s

/-- R131, R136, R138, R140: MOV r,M, LDA, LHLD and LDAX read memory, or fault, and write the register; LHLD has written L
when its second read faults. -/
def Obligations.LoadsReadMemory : Prop :=
  (∀ (d : Reg8), EncodedAs (movFromM d) [0b01#2 ++ d.code ++ 0b110#3] ∧
    ∀ (s : State), Runs (movFromM d) s →
      ReadThen (wordOf s.h s.l) s (exec (movFromM d) s) fun v =>
        exec (movFromM d) s = .next { setReg d v s with pc := s.pc + 1 }) ∧
  (∀ (x : Word), EncodedAs (.lda x) [0b00111010, lowOf x, highOf x] ∧
    ∀ (s : State), Runs (.lda x) s →
      ReadThen x s (exec (.lda x) s) fun v => exec (.lda x) s = .next { s with a := v, pc := s.pc + 3 }) ∧
  (∀ (x : Word), EncodedAs (.lhld x) [0b00101010, lowOf x, highOf x] ∧
    ∀ (s : State), Runs (.lhld x) s →
      ReadThen x s (exec (.lhld x) s) fun lo =>
      ReadThen (x + 1) { s with l := lo } (exec (.lhld x) s) fun hi =>
        exec (.lhld x) s = .next { s with l := lo, h := hi, pc := s.pc + 3 }) ∧
  (∀ (p : IndexPair), EncodedAs (ldaxForm p) [0b000#3 ++ p.code ++ 0b1010#4] ∧
    ∀ (s : State), Runs (ldaxForm p) s →
      ReadThen (getPair (indexPair p) s) s (exec (ldaxForm p) s) fun v =>
        exec (ldaxForm p) s = .next { s with a := v, pc := s.pc + 1 })

/-- R132, R134, R137, R139, R141: MOV M,r, MVI M, STA, SHLD and STAX store, or fault, and change nothing else but PC; of
SHLD's two writes the first stays when the second faults. -/
def Obligations.StoresWriteMemory : Prop :=
  (∀ (r : Reg8), EncodedAs (movToM r) [0b01110#5 ++ r.code] ∧
    ∀ (s : State), Runs (movToM r) s →
      WriteThen (wordOf s.h s.l) (getReg r s) s (exec (movToM r) s) fun t =>
        exec (movToM r) s = .next { t with pc := s.pc + 1 }) ∧
  (∀ (d8 : Byte), EncodedAs (.mviM d8) [0b00110110, d8] ∧
    ∀ (s : State), Runs (.mviM d8) s →
      WriteThen (wordOf s.h s.l) d8 s (exec (.mviM d8) s) fun t =>
        exec (.mviM d8) s = .next { t with pc := s.pc + 2 }) ∧
  (∀ (x : Word), EncodedAs (.sta x) [0b00110010, lowOf x, highOf x] ∧
    ∀ (s : State), Runs (.sta x) s →
      WriteThen x s.a s (exec (.sta x) s) fun t => exec (.sta x) s = .next { t with pc := s.pc + 3 }) ∧
  (∀ (x : Word), EncodedAs (.shld x) [0b00100010, lowOf x, highOf x] ∧
    ∀ (s : State), Runs (.shld x) s →
      WriteThen x s.l s (exec (.shld x) s) fun t =>
      WriteThen (x + 1) s.h t (exec (.shld x) s) fun u =>
        exec (.shld x) s = .next { u with pc := s.pc + 3 }) ∧
  (∀ (p : IndexPair), EncodedAs (staxForm p) [0b000#3 ++ p.code ++ 0b0010#4] ∧
    ∀ (s : State), Runs (staxForm p) s →
      WriteThen (getPair (indexPair p) s) s.a s (exec (staxForm p) s) fun t =>
        exec (staxForm p) s = .next { t with pc := s.pc + 1 })

/-- R133, R135: MVI r and LXI load their immediate. -/
def Obligations.ImmediateLoads : Prop :=
  (∀ (d : Reg8) (d8 : Byte), EncodedAs (mviForm d d8) [0b00#2 ++ d.code ++ 0b110#3, d8] ∧
    ∀ (s : State), Runs (mviForm d d8) s →
      exec (mviForm d d8) s = .next { setReg d d8 s with pc := s.pc + 2 }) ∧
  (∀ (p : Pair) (d16 : Word), EncodedAs (lxiForm p d16) [0b00#2 ++ p.code ++ 0b0001#4, lowOf d16, highOf d16] ∧
    ∀ (s : State), Runs (lxiForm p d16) s →
      exec (lxiForm p d16) s = .next { setPair p d16 s with pc := s.pc + 3 })

/-- R142, R245: XCHG exchanges H with D and L with E; SPHL loads SP from HL. -/
def Obligations.ExchangeAndSphl : Prop :=
  EncodedAs .xchg [0b11101011] ∧ EncodedAs .sphl [0b11111001] ∧
  ∀ (s : State),
    (Runs .xchg s → exec .xchg s = .next { s with h := s.d, l := s.e, d := s.h, e := s.l, pc := s.pc + 1 }) ∧
    (Runs .sphl s → exec .sphl s = .next { s with sp := wordOf s.h s.l, pc := s.pc + 1 })

/-! ### Arithmetic -/

/-- R151, R152, R155, R156: ADD, ADC, ADI, ACI. -/
def Obligations.Additions : Prop :=
  (∀ (r : Operand8),
    EncodedAs (aluForm .add r) [0b10000#5 ++ r.code] ∧ EncodedAs (aluForm .adc r) [0b10001#5 ++ r.code] ∧
    ∀ (s : State),
      (Runs (aluForm .add r) s → OperandThen r s (exec (aluForm .add r) s) fun v =>
        exec (aluForm .add r) s = .next { added false v s with pc := s.pc + 1 }) ∧
      (Runs (aluForm .adc r) s → OperandThen r s (exec (aluForm .adc r) s) fun v =>
        exec (aluForm .adc r) s = .next { added s.flags.cy v s with pc := s.pc + 1 })) ∧
  (∀ (d8 : Byte),
    EncodedAs (.adi d8) [0b11000110, d8] ∧ EncodedAs (.aci d8) [0b11001110, d8] ∧
    ∀ (s : State),
      (Runs (.adi d8) s → exec (.adi d8) s = .next { added false d8 s with pc := s.pc + 2 }) ∧
      (Runs (.aci d8) s → exec (.aci d8) s = .next { added s.flags.cy d8 s with pc := s.pc + 2 }))

/-- R153, R154, R157, R158: SUB, SBB, SUI, SBI. -/
def Obligations.Subtractions : Prop :=
  (∀ (r : Operand8),
    EncodedAs (aluForm .sub r) [0b10010#5 ++ r.code] ∧ EncodedAs (aluForm .sbb r) [0b10011#5 ++ r.code] ∧
    ∀ (s : State),
      (Runs (aluForm .sub r) s → OperandThen r s (exec (aluForm .sub r) s) fun v =>
        exec (aluForm .sub r) s = .next { subtracted false v s with pc := s.pc + 1 }) ∧
      (Runs (aluForm .sbb r) s → OperandThen r s (exec (aluForm .sbb r) s) fun v =>
        exec (aluForm .sbb r) s = .next { subtracted s.flags.cy v s with pc := s.pc + 1 })) ∧
  (∀ (d8 : Byte),
    EncodedAs (.sui d8) [0b11010110, d8] ∧ EncodedAs (.sbi d8) [0b11011110, d8] ∧
    ∀ (s : State),
      (Runs (.sui d8) s → exec (.sui d8) s = .next { subtracted false d8 s with pc := s.pc + 2 }) ∧
      (Runs (.sbi d8) s → exec (.sbi d8) s = .next { subtracted s.flags.cy d8 s with pc := s.pc + 2 }))

/-- R184, R188: CMP and CPI write the flags of a subtraction and not A; Z = 1 exactly when A equals the operand, CY = 1
exactly when A is below it. -/
def Obligations.Comparisons : Prop :=
  (∀ (r : Operand8), EncodedAs (aluForm .cmp r) [0b10111#5 ++ r.code] ∧
    ∀ (s : State), Runs (aluForm .cmp r) s → OperandThen r s (exec (aluForm .cmp r) s) fun v =>
      exec (aluForm .cmp r) s = .next { s with flags := differenceFlags false v s, pc := s.pc + 1 }) ∧
  (∀ (d8 : Byte), EncodedAs (.cpi d8) [0b11111110, d8] ∧
    ∀ (s : State), Runs (.cpi d8) s →
      exec (.cpi d8) s = .next { s with flags := differenceFlags false d8 s, pc := s.pc + 2 }) ∧
  (∀ (v : Byte) (s : State), ((differenceFlags false v s).z = true ↔ s.a = v) ∧
    ((differenceFlags false v s).cy = true ↔ s.a.toNat < v.toNat))

/-- R181, R182, R183, R185, R186, R187: ANA, XRA, ORA, ANI, XRI, ORI, with CY = 0. -/
def Obligations.LogicalOperations : Prop :=
  (∀ (r : Operand8),
    EncodedAs (aluForm .ana r) [0b10100#5 ++ r.code] ∧ EncodedAs (aluForm .xra r) [0b10101#5 ++ r.code] ∧
    EncodedAs (aluForm .ora r) [0b10110#5 ++ r.code] ∧
    ∀ (s : State),
      (Runs (aluForm .ana r) s → OperandThen r s (exec (aluForm .ana r) s) fun v =>
        exec (aluForm .ana r) s = .next { logicalResult (s.a &&& v) s with pc := s.pc + 1 }) ∧
      (Runs (aluForm .xra r) s → OperandThen r s (exec (aluForm .xra r) s) fun v =>
        exec (aluForm .xra r) s = .next { logicalResult (s.a ^^^ v) s with pc := s.pc + 1 }) ∧
      (Runs (aluForm .ora r) s → OperandThen r s (exec (aluForm .ora r) s) fun v =>
        exec (aluForm .ora r) s = .next { logicalResult (s.a ||| v) s with pc := s.pc + 1 })) ∧
  (∀ (d8 : Byte),
    EncodedAs (.ani d8) [0b11100110, d8] ∧ EncodedAs (.xri d8) [0b11101110, d8] ∧ EncodedAs (.ori d8) [0b11110110, d8] ∧
    ∀ (s : State),
      (Runs (.ani d8) s → exec (.ani d8) s = .next { logicalResult (s.a &&& d8) s with pc := s.pc + 2 }) ∧
      (Runs (.xri d8) s → exec (.xri d8) s = .next { logicalResult (s.a ^^^ d8) s with pc := s.pc + 2 }) ∧
      (Runs (.ori d8) s → exec (.ori d8) s = .next { logicalResult (s.a ||| d8) s with pc := s.pc + 2 }))

/-- R159, R161: INR r and DCR r, modulo 256, with Z, S and P; CY and AC kept. -/
def Obligations.IncrementRegister : Prop :=
  ∀ (r : Reg8),
    EncodedAs (inrForm r) [0b00#2 ++ r.code ++ 0b100#3] ∧ EncodedAs (dcrForm r) [0b00#2 ++ r.code ++ 0b101#3] ∧
    ∀ (s : State),
      (Runs (inrForm r) s →
        let v : Byte := BitVec.ofNat 8 ((getReg r s).toNat + 1)
        exec (inrForm r) s =
          .next { setReg r v s with flags := resultFlags v s.flags.cy s.flags, pc := s.pc + 1 }) ∧
      (Runs (dcrForm r) s →
        let v : Byte := BitVec.ofNat 8 ((getReg r s).toNat + 255)
        exec (dcrForm r) s =
          .next { setReg r v s with flags := resultFlags v s.flags.cy s.flags, pc := s.pc + 1 })

/-- R160, R162: INR M and DCR M read, then write, then set Z, S and P; either access may fault. -/
def Obligations.IncrementMemory : Prop :=
  EncodedAs .inrM [0b00110100] ∧ EncodedAs .dcrM [0b00110101] ∧
  ∀ (s : State),
    (Runs .inrM s → ReadThen (wordOf s.h s.l) s (exec .inrM s) fun x =>
      let v : Byte := BitVec.ofNat 8 (x.toNat + 1)
      WriteThen (wordOf s.h s.l) v s (exec .inrM s) fun t =>
        exec .inrM s = .next { t with flags := resultFlags v s.flags.cy s.flags, pc := s.pc + 1 }) ∧
    (Runs .dcrM s → ReadThen (wordOf s.h s.l) s (exec .dcrM s) fun x =>
      let v : Byte := BitVec.ofNat 8 (x.toNat + 255)
      WriteThen (wordOf s.h s.l) v s (exec .dcrM s) fun t =>
        exec .dcrM s = .next { t with flags := resultFlags v s.flags.cy s.flags, pc := s.pc + 1 })

/-- R163, R164: INX and DCX, modulo 2^16, with no flag. -/
def Obligations.IncrementPair : Prop :=
  ∀ (p : Pair),
    EncodedAs (inxForm p) [0b00#2 ++ p.code ++ 0b0011#4] ∧ EncodedAs (dcxForm p) [0b00#2 ++ p.code ++ 0b1011#4] ∧
    ∀ (s : State),
      (Runs (inxForm p) s → exec (inxForm p) s =
        .next { setPair p (BitVec.ofNat 16 ((getPair p s).toNat + 1)) s with pc := s.pc + 1 }) ∧
      (Runs (dcxForm p) s → exec (dcxForm p) s =
        .next { setPair p (BitVec.ofNat 16 ((getPair p s).toNat + 65535)) s with pc := s.pc + 1 })

/-- R165: DAD, "set when a 32-bit intermediate exceeds 0xFFFF"; Z, S, P, AC unchanged. -/
def Obligations.DoubleAdd : Prop :=
  ∀ (p : Pair), EncodedAs (dadForm p) [0b00#2 ++ p.code ++ 0b1001#4] ∧
    ∀ (s : State), Runs (dadForm p) s →
      let sum := (wordOf s.h s.l).toNat + (getPair p s).toNat
      exec (dadForm p) s = .next { s with
        h := highOf (BitVec.ofNat 16 sum), l := lowOf (BitVec.ofNat 16 sum)
        flags := { s.flags with cy := decide (0xFFFF < sum) }, pc := s.pc + 1 }

/-- R166: DAA corrects each nibble by the stale AC, the nibble, A and CY; CY is never cleared and AC is kept. -/
def Obligations.DecimalAdjust : Prop :=
  EncodedAs .daa [0b00100111] ∧
  ∀ (s : State), Runs .daa s →
    let low := if 9 < s.a.toNat % 16 ∨ s.flags.ac = true then 0x06 else 0
    let high := if 0x99 < s.a.toNat ∨ s.flags.cy = true then 0x60 else 0
    let r : Byte := BitVec.ofNat 8 (s.a.toNat + low + high)
    exec .daa s = .next { s with
      a := r
      flags := resultFlags r (decide (0x99 < s.a.toNat) || s.flags.cy) s.flags
      pc := s.pc + 1 }

/-! ### Rotates and carry -/

/-- R189 to R192: the rotates move A by one bit and write CY with the bit shifted out, and no other flag. -/
def Obligations.Rotates : Prop :=
  EncodedAs .rlc [0b00000111] ∧ EncodedAs .rrc [0b00001111] ∧ EncodedAs .ral [0b00010111] ∧ EncodedAs .rar [0b00011111] ∧
  ∀ (s : State),
    let x := s.a.toNat
    (Runs .rlc s → exec .rlc s =
      .next { rotated (x * 2 % 256 + x / 128) (decide (x / 128 = 1)) s with pc := s.pc + 1 }) ∧
    (Runs .rrc s → exec .rrc s =
      .next { rotated (x / 2 + 128 * (x % 2)) (decide (x % 2 = 1)) s with pc := s.pc + 1 }) ∧
    (Runs .ral s → exec .ral s =
      .next { rotated (x * 2 % 256 + s.flags.cy.toNat) (decide (x / 128 = 1)) s with pc := s.pc + 1 }) ∧
    (Runs .rar s → exec .rar s =
      .next { rotated (x / 2 + 128 * s.flags.cy.toNat) (decide (x % 2 = 1)) s with pc := s.pc + 1 })

/-- R193 to R195: CMA complements A and writes no flag; CMC complements CY; STC sets it. -/
def Obligations.ComplementAndCarry : Prop :=
  EncodedAs .cma [0b00101111] ∧ EncodedAs .cmc [0b00111111] ∧ EncodedAs .stc [0b00110111] ∧
  ∀ (s : State),
    (Runs .cma s → exec .cma s = .next { s with a := BitVec.ofNat 8 (255 - s.a.toNat), pc := s.pc + 1 }) ∧
    (Runs .cmc s → exec .cmc s =
      .next { s with flags := { s.flags with cy := decide (s.flags.cy = false) }, pc := s.pc + 1 }) ∧
    (Runs .stc s → exec .stc s = .next { s with flags := { s.flags with cy := true }, pc := s.pc + 1 })

/-! ### Branch, call, return -/

/-- R212, R219, R267: JMP, its alias and PCHL assign PC and change nothing else. -/
def Obligations.JumpsAssignPc : Prop :=
  EncodedAs .pchl [0b11101001] ∧
  (∀ (x : Word), EncodedAs (.jmp x) [0b11000011, lowOf x, highOf x] ∧ EncodedAs (.jmpCB x) [0xCB, lowOf x, highOf x] ∧
    ∀ (s : State),
      (Runs (.jmp x) s → exec (.jmp x) s = .next { s with pc := x }) ∧
      (Runs (.jmpCB x) s → exec (.jmpCB x) s = .next { s with pc := x }) ∧
      (¬ Runs (.jmpCB x) s → exec (.jmpCB x) s = .next (skipped (.jmpCB x) s))) ∧
  (∀ (s : State), Runs .pchl s → exec .pchl s = .next { s with pc := wordOf s.h s.l })

/-- R213: Jcc, all eight; "the not-taken path must still advance PC by the full instruction length". -/
def Obligations.ConditionalJumps : Prop :=
  ∀ (k : Cond) (x : Word), EncodedAs (jccForm k x) [0b11#2 ++ k.code ++ 0b010#3, lowOf x, highOf x] ∧
    ∀ (s : State), Runs (jccForm k x) s →
      exec (jccForm k x) s = .next { s with pc := if conditionTrue k s.flags then x else s.pc + 3 }

/-- R214, R218, R269: CALL where the hook does not apply, the CALL aliases everywhere, and RST push the address of the
byte after them and go to their target; a stack write that faults ends them. -/
def Obligations.CallsPushReturnAddress : Prop :=
  (∀ (x : Word), EncodedAs (.call x) [0b11001101, lowOf x, highOf x] ∧
    ∀ (s : State), Runs (.call x) s →
      (s.cfg.diagEnabled = false ∨ (x ≠ 0 ∧ x ≠ s.cfg.diagVector)) →
      PushThen (s.pc + 3) s (exec (.call x) s) fun t => exec (.call x) s = .next { t with pc := x }) ∧
  (∀ (x : Word),
    EncodedAs (.callDD x) [0xDD, lowOf x, highOf x] ∧ EncodedAs (.callED x) [0xED, lowOf x, highOf x] ∧
    EncodedAs (.callFD x) [0xFD, lowOf x, highOf x] ∧
    ∀ (i : Instr) (s : State), i ∈ [.callDD x, .callED x, .callFD x] → Runs i s →
      PushThen (s.pc + 3) s (exec i s) fun t => exec i s = .next { t with pc := x }) ∧
  (∀ (x : Word) (i : Instr) (s : State), i ∈ [.callDD x, .callED x, .callFD x] → ¬ Runs i s →
    exec i s = .next (skipped i s)) ∧
  (∀ (n : Fin 8), EncodedAs (rstForm n) [0b11#2 ++ BitVec.ofNat 3 n ++ 0b111#3] ∧
    ∀ (s : State), Runs (rstForm n) s →
      PushThen (s.pc + 1) s (exec (rstForm n) s) fun t =>
        exec (rstForm n) s = .next { t with pc := BitVec.ofNat 16 (8 * n) })

/-- R215: Ccc, all eight: a call when the condition holds, with no hook; else PC + 3 and no write. -/
def Obligations.ConditionalCalls : Prop :=
  ∀ (k : Cond) (x : Word), EncodedAs (cccForm k x) [0b11#2 ++ k.code ++ 0b100#3, lowOf x, highOf x] ∧
    ∀ (s : State), Runs (cccForm k x) s →
      (conditionTrue k s.flags = true →
        PushThen (s.pc + 3) s (exec (cccForm k x) s) fun t => exec (cccForm k x) s = .next { t with pc := x }) ∧
      (conditionTrue k s.flags = false → exec (cccForm k x) s = .next { s with pc := s.pc + 3 })

/-- R216, R217, R268: RET, its alias and taken Rcc pop PC; a not-taken Rcc reads nothing and advances by 1. -/
def Obligations.ReturnsPopPc : Prop :=
  EncodedAs .ret [0b11001001] ∧ EncodedAs .retD9 [0xD9] ∧
  (∀ (i : Instr) (s : State), i ∈ [.ret, .retD9] → Runs i s →
    PopThen s (exec i s) fun hi lo t => exec i s = .next { t with pc := wordOf hi lo }) ∧
  (∀ (s : State), ¬ Runs .retD9 s → exec .retD9 s = .next (skipped .retD9 s)) ∧
  (∀ (k : Cond), EncodedAs (rccForm k) [0b11#2 ++ k.code ++ 0b000#3] ∧
    ∀ (s : State), Runs (rccForm k) s →
      (conditionTrue k s.flags = true →
        PopThen s (exec (rccForm k) s) fun hi lo t => exec (rccForm k) s = .next { t with pc := wordOf hi lo }) ∧
      (conditionTrue k s.flags = false → exec (rccForm k) s = .next { s with pc := s.pc + 1 }))

/-- R231 and the placeholder line of R230: with the hook on, CALL 0x0000 exits and changes RUN alone; CALL DIAG_VECTOR
with another value in C emits a trace line and goes on with no stack access. -/
def Obligations.DiagnosticExitAndTrace : Prop :=
  ∀ (s : State), s.cfg.diagEnabled = true → Runs (.call 0) s →
    exec (.call 0) s = .next { s with run := .exited } ∧
    (s.cfg.diagVector ≠ 0 → s.c ≠ s.cfg.diagPrintC →
      exec (.call s.cfg.diagVector) s = .next { s with trace := .consoleTrace s.c :: s.trace, pc := s.pc + 3 })

/-- R230: with the hook on and DIAG_PRINT_C in C, CALL DIAG_VECTOR prints the string at DE up to '$' or NUL, writes no
stack byte and goes on; a read that faults ends it with what was printed; with no terminator in 65536 bytes it is
refused. -/
def Obligations.DiagnosticConsolePrints : Prop :=
  ∀ (s : State) (text : List Byte),
    s.cfg.diagEnabled = true → s.cfg.diagVector ≠ 0 → Runs (.call s.cfg.diagVector) s → s.c = s.cfg.diagPrintC →
    (∀ k, k < text.length → Readable s (wordOf s.d s.e + BitVec.ofNat 16 k) ∧
      byteAt s (wordOf s.d s.e + BitVec.ofNat 16 k) = text.getD k 0 ∧ text.getD k 0 ≠ 0x24 ∧ text.getD k 0 ≠ 0x00) →
    let printed := { s with trace := (text.map .console).reverse ++ s.trace }
    let here := wordOf s.d s.e + BitVec.ofNat 16 text.length
    (text.length < 65536 → Readable s here → (byteAt s here = 0x24 ∨ byteAt s here = 0x00) →
      exec (.call s.cfg.diagVector) s = .next { printed with pc := s.pc + 3 }) ∧
    (text.length < 65536 → ¬ Readable s here → exec (.call s.cfg.diagVector) s = readFault here printed) ∧
    (text.length = 65536 →
      exec (.call s.cfg.diagVector) s = .refused (.diagUnterminated (wordOf s.d s.e)
        { printed with run := .refused (.diagUnterminated (wordOf s.d s.e)) }))

/-! ### Stack -/

/-- R240, R241: PUSH of a pair and PUSH PSW, with this core's flag byte as the low half. -/
def Obligations.PushStoresPair : Prop :=
  (∀ (p : StackPair), EncodedAs (pushForm p) [0b11#2 ++ p.code ++ 0b0101#4] ∧
    ∀ (s : State), Runs (pushForm p) s →
      PushThen (getPair (stackPair p) s) s (exec (pushForm p) s) fun t =>
        exec (pushForm p) s = .next { t with pc := s.pc + 1 }) ∧
  EncodedAs .pushPsw [0b11110101] ∧
  (∀ (s : State), Runs .pushPsw s →
    PushThen (wordOf s.a (flagByte s.flags)) s (exec .pushPsw s) fun t =>
      exec .pushPsw s = .next { t with pc := s.pc + 1 })

/-- R242, R243: POP of a pair and POP PSW, which takes the five flags from bits 0 to 4 and ignores bits 7:5. -/
def Obligations.PopLoadsPair : Prop :=
  (∀ (p : StackPair), EncodedAs (popForm p) [0b11#2 ++ p.code ++ 0b0001#4] ∧
    ∀ (s : State), Runs (popForm p) s →
      PopThen s (exec (popForm p) s) fun hi lo t =>
        exec (popForm p) s = .next { setPair (stackPair p) (wordOf hi lo) t with pc := s.pc + 1 }) ∧
  EncodedAs .popPsw [0b11110001] ∧
  (∀ (s : State), Runs .popPsw s →
    PopThen s (exec .popPsw s) fun hi lo t =>
      exec .popPsw s = .next { t with a := hi, flags := flagsIn lo, pc := s.pc + 1 })

/-- R244: XTHL reads both bytes, then writes both, then HL; SP is not changed. -/
def Obligations.ExchangeStackTop : Prop :=
  EncodedAs .xthl [0b11100011] ∧
  ∀ (s : State), Runs .xthl s →
    ReadThen s.sp s (exec .xthl s) fun lo =>
    ReadThen (s.sp + 1) s (exec .xthl s) fun hi =>
    WriteThen s.sp s.l s (exec .xthl s) fun t =>
    WriteThen (s.sp + 1) s.h t (exec .xthl s) fun u =>
      exec .xthl s = .next { u with l := lo, h := hi, pc := s.pc + 1 }

/-- R242, R216, the source's round trips: PUSH then POP of the same pair restores it and SP; CALL then RET returns to the
byte after the CALL with SP restored. The premise that the two stack bytes are two bytes is met unless RAM_SIZE is
degenerate. -/
def Obligations.StackRoundTrips : Prop :=
  (∀ (p : StackPair) (s t u : State), Runs (pushForm p) s → Runs (popForm p) s →
    fold s.cfg (s.sp - 1) ≠ fold s.cfg (s.sp - 2) →
    exec (pushForm p) s = .next t → exec (popForm p) t = .next u →
    getPair (stackPair p) u = getPair (stackPair p) s ∧ u.sp = s.sp) ∧
  (∀ (p : StackPair) (s t : State), Runs (pushForm p) s → Runs (popForm p) s →
    exec (pushForm p) s = .next t → ∃ u, exec (popForm p) t = .next u) ∧
  (∀ (x : Word) (s t : State), Runs (.call x) s → Runs .ret s → s.cfg.diagEnabled = false →
    fold s.cfg (s.sp - 1) ≠ fold s.cfg (s.sp - 2) →
    exec (.call x) s = .next t → ∃ u, exec .ret t = .next u ∧ u.pc = s.pc + 3 ∧ u.sp = s.sp)

/-! ### I/O and control -/

/-- R260: IN puts the callback's answer in A, with an event; the answer is the host's next one, or any byte when the
model holds none (notes/assumptions/8.md). With no callback A is any byte and there is no event. -/
def Obligations.InputFromPort : Prop :=
  ∀ (p8 : Byte), EncodedAs (.inPort p8) [0b11011011, p8] ∧
    ∀ (s : State), Runs (.inPort p8) s →
      (∀ v rest, s.cbIn = true → s.inAnswers = v :: rest →
        exec (.inPort p8) s = .next { s with
          a := v, inAnswers := rest, trace := .ioIn p8 v :: s.trace, pc := s.pc + 2 }) ∧
      (s.cbIn = true → s.inAnswers = [] → ∃ v, exec (.inPort p8) s = .next { s with
          a := v, draws := s.draws + 1, trace := .ioIn p8 v :: s.trace, pc := s.pc + 2 }) ∧
      (s.cbIn = false → ∃ v, exec (.inPort p8) s = .next { s with a := v, draws := s.draws + 1, pc := s.pc + 2 })

/-- R261: OUT sends A to the callback; with none it is a no-op. -/
def Obligations.OutputToPort : Prop :=
  ∀ (p8 : Byte), EncodedAs (.outPort p8) [0b11010011, p8] ∧
    ∀ (s : State), Runs (.outPort p8) s →
      (s.cbOut = true → exec (.outPort p8) s =
        .next { s with trace := .ioOut p8 s.a :: s.trace, pc := s.pc + 2 }) ∧
      (s.cbOut = false → exec (.outPort p8) s = .next { s with pc := s.pc + 2 })

/-- R262, R263, R265, R266: EI sets IE at once; DI leaves it; NOP and its seven aliases do nothing. Outside IMPL_SET the
latter nine take the fallback, which with the default FALLBACK_LEN advances PC by 1 and reports. -/
def Obligations.EnableInterruptAndNoOperation : Prop :=
  EncodedAs .ei [0b11111011] ∧ EncodedAs .di [0b11110011] ∧ EncodedAs .nop [0b00000000] ∧
  EncodedAs .nop08 [0x08] ∧ EncodedAs .nop10 [0x10] ∧ EncodedAs .nop18 [0x18] ∧ EncodedAs .nop20 [0x20] ∧
  EncodedAs .nop28 [0x28] ∧ EncodedAs .nop30 [0x30] ∧ EncodedAs .nop38 [0x38] ∧
  (∀ (s : State), Runs .ei s → exec .ei s = .next { s with ie := true, pc := s.pc + 1 }) ∧
  (∀ (i : Instr) (s : State),
    i ∈ [.di, .nop, .nop08, .nop10, .nop18, .nop20, .nop28, .nop30, .nop38] →
    (Runs i s → exec i s = .next { s with pc := s.pc + 1 }) ∧ (¬ Runs i s → exec i s = .next (skipped i s)) ∧
    (¬ Runs i s → (∀ n, (i.opcode, n) ∉ s.cfg.fallbackLens) →
      exec i s = .next { s with pc := s.pc + 1, trace := .unimplemented s.pc i.opcode :: s.trace }))

/-- R264: HLT inside IMPL_SET is refused as HaltUnmodelled(PC); outside it, the fallback, PC + 1 by default. -/
def Obligations.HaltIsRefusedOrSkipped : Prop :=
  EncodedAs .hlt [0b01110110] ∧
  ∀ (s : State),
    (Runs .hlt s → exec .hlt s =
      .refused (.haltUnmodelled s.pc { s with run := .refused (.haltUnmodelled s.pc) })) ∧
    (¬ Runs .hlt s → exec .hlt s = .next (skipped .hlt s)) ∧
    (s.cfg.fallbackLens = [] → (fallbackLen s.cfg 0x76).bytes = 1)

/-! ### Interrupts and faults -/

/-- R310 to R313: interrupt(n) pushes PC and goes to 8n when IE is set, and then clears IE only if INT_CLEARS_IE; with IE
clear it is dropped; n outside 0 to 7 is refused; in a terminal status it has no effect. -/
def Obligations.InterruptEntry : Prop :=
  ∀ (s : State) (n : Int),
    (s.run = .running → 0 ≤ n → n ≤ 7 → s.ie = true →
      PushThen s.pc s (interrupt n s) fun t =>
        interrupt n s = .next { t with
          pc := BitVec.ofNat 16 (8 * n.toNat), ie := decide (s.cfg.intClearsIe = false) }) ∧
    (s.run = .running → 0 ≤ n → n ≤ 7 → s.ie = false → interrupt n s = .next s) ∧
    (s.run = .running → n < 0 ∨ 7 < n →
      interrupt n s = .refused (.badVector n { s with run := .refused (.badVector n) })) ∧
    (s.run ≠ .running → interrupt n s = .next s)

/-- R300, R307, for every instruction: the state a fault leaves has RUN = Faulted with the fault's own information, PC
still at the faulting instruction, and SP as before the instruction. -/
def Obligations.FaultsArePrecise : Prop :=
  ∀ (i : Instr) (s : State) (f : Fault), exec i s = .fault f →
    (faultState f).run = .faulted (faultInfo f) ∧ (faultState f).pc = s.pc ∧ (faultState f).sp = s.sp ∧
    (faultState f).flags = s.flags

/-! ### The whole machine -/

/-- Every step, of an instruction or of any host call, keeps the invariant of the plain data. -/
def Obligations.StepKeepsInvariant : Prop :=
  ∀ (s t : State), Inv s → step s = .next t → Inv t

/-- The invariant holds right after reset; the configuration is the model's choice (notes/assumptions/1.md to 4.md). -/
def Obligations.ResetMeetsInvariant : Prop := Inv State.reset

/-- R43: a row outside the flag table leaves all five flags; only POP PSW writes AC (R40); INR and DCR leave CY; DAD and
the carry and rotate rows write CY alone. -/
def Obligations.OnlyListedInstructionsWriteFlags : Prop :=
  ∀ (i : Instr) (s t : State), exec i s = .next t →
    (¬ WritesFlags i → t.flags = s.flags) ∧
    (i ≠ .popPsw → t.flags.ac = s.flags.ac) ∧
    ((∃ r, i = inrForm r ∨ i = dcrForm r) ∨ i = .inrM ∨ i = .dcrM → t.flags.cy = s.flags.cy) ∧
    ((∃ p, i = dadForm p) ∨ i ∈ [.rlc, .rrc, .ral, .rar, .stc, .cmc] →
      t.flags.z = s.flags.z ∧ t.flags.s = s.flags.s ∧ t.flags.p = s.flags.p)

/-- R44, R349: an implemented EI sets IE, and no instruction clears it or otherwise changes it. -/
def Obligations.OnlyEiChangesIe : Prop :=
  ∀ (i : Instr) (s t : State), exec i s = .next t →
    t.ie = (s.ie || (decide (i = .ei) && implemented s.cfg 0xFB))

/-- R45 to R50: no instruction writes the step counter, the breakpoint sets, the callbacks or the configuration; the
trace only grows and the callback's reads are only used up; RUN stays, but for the diagnostic exit of a CALL 0x0000 with the hook on. -/
def Obligations.InstructionsLeaveEngineState : Prop :=
  ∀ (i : Instr) (s t : State), exec i s = .next t →
    t.nsteps = s.nsteps ∧ t.bpWrite = s.bpWrite ∧ t.bpOpcode = s.bpOpcode ∧
    t.cbIn = s.cbIn ∧ t.cbOut = s.cbOut ∧ t.cbBkpt = s.cbBkpt ∧ t.cfg = s.cfg ∧ t.hostCalls = s.hostCalls ∧
    (∃ events, t.trace = events ++ s.trace) ∧ t.bpReads <:+ s.bpReads ∧
    (t.run = s.run ∨ (t.run = .exited ∧ i = .call 0 ∧ s.cfg.diagEnabled = true))

/-- R320, R323, R335: breakpoints notify "without altering CPU semantics": a step of the machine with its breakpoints,
callback and notifications hidden is the step of the machine, with the same things hidden; or else, right after a
notification, its callback reads out of bounds, and the step ends in that read's fault. -/
def Obligations.BreakpointsDoNotInterfere : Prop :=
  ∀ (s : State), instrStep (hideBreakpoints s) = hideInAnswer (instrStep s) ∨
    ∃ r ∈ s.bpReads.flatten, ¬ Readable s r ∧ ∃ t k x v earlier,
      instrStep s = .fault (.memReadOutOfBounds r (fold s.cfg r) t) ∧ t.trace = .breakpoint k x v :: earlier
end

