-- ==== Sys2Proof/Laws/Memory.lean ====
section
/-! SUPPORT. Laws of the storage list and of the breakpoint sets: read after write, writes elsewhere, and that every
operation keeps the canonical form. -/

namespace Sys2Proof.Machine

theorem rising_cons {x : Nat} {l : List Nat} :
    rising (x :: l) = true ↔ (∀ y ∈ l, x < y) ∧ rising l = true := by
  induction l generalizing x with
  | nil => simp [rising]
  | cons y l ih =>
    have hr : rising (x :: y :: l) = true ↔ x < y ∧ rising (y :: l) = true := by
      rw [rising]; simp
    rw [hr]
    constructor
    · rintro ⟨hxy, hyl⟩
      refine ⟨?_, hyl⟩
      intro z hz
      rcases List.mem_cons.1 hz with rfl | hz
      · exact hxy
      · exact hxy.trans ((ih.1 hyl).1 z hz)
    · exact fun h => ⟨h.1 y (by simp), h.2⟩

theorem rising_filter {p : Host.Cell → Bool} {m : Memory} (h : rising (m.map (·.1)) = true) :
    rising ((m.filter p).map (·.1)) = true := by
  induction m with
  | nil => simp [rising]
  | cons x m ih =>
    have hx := rising_cons.1 h
    by_cases hp : p x = true
    · rw [List.filter_cons_of_pos hp]
      refine rising_cons.2 ⟨?_, ih hx.2⟩
      intro y hy
      obtain ⟨z, hz, rfl⟩ := List.mem_map.1 hy
      exact hx.1 _ (List.mem_map.2 ⟨z, (List.mem_filter.1 hz).1, rfl⟩)
    · rw [List.filter_cons_of_neg hp]; exact ih hx.2

theorem mem_dropByte {m : Memory} {i : Nat} {x : Host.Cell} : x ∈ dropByte m i ↔ x ∈ m ∧ x.1 ≠ i := by
  simp [dropByte, List.mem_filter]

theorem mem_insertByte {m : Memory} {i : Nat} {v : Byte} {x : Host.Cell} :
    x ∈ insertByte i v m ↔ x = (i, v) ∨ x ∈ m := by
  induction m with
  | nil => simp [insertByte]
  | cons y m ih =>
    obtain ⟨k, w⟩ := y
    unfold insertByte
    split
    · simp
    · simp only [List.mem_cons, ih]; tauto

theorem rising_insertByte {m : Memory} {i : Nat} {v : Byte} (h : rising (m.map (·.1)) = true)
    (hi : ∀ x ∈ m, x.1 ≠ i) : rising ((insertByte i v m).map (·.1)) = true := by
  induction m with
  | nil => simp [insertByte, rising]
  | cons y m ih =>
    obtain ⟨k, w⟩ := y
    have hx := rising_cons.1 h
    unfold insertByte
    split
    · rename_i hik
      refine rising_cons.2 ⟨?_, h⟩
      intro z hz
      rcases List.mem_cons.1 hz with rfl | hz
      · exact hik
      · exact Nat.lt_trans hik (hx.1 z hz)
    · rename_i hik
      refine rising_cons.2 ⟨?_, ih hx.2 fun x hxm => hi x (List.mem_cons_of_mem _ hxm)⟩
      intro z hz
      obtain ⟨c, hc, rfl⟩ := List.mem_map.1 hz
      rcases mem_insertByte.1 hc with rfl | hc
      · have := hi (k, w) (by simp); simp only at this hik ⊢; omega
      · exact hx.1 _ (List.mem_map.2 ⟨c, hc, rfl⟩)

/-- Every write keeps the canonical form. -/
theorem writeByte_wf {sentinel : Byte} {m : Memory} {i : Nat} {v : Byte} (h : Memory.wf sentinel m = true) :
    Memory.wf sentinel (writeByte sentinel m i v) = true := by
  simp only [Memory.wf, Bool.and_eq_true, List.all_eq_true] at h ⊢
  have hd : rising ((dropByte m i).map (·.1)) = true := rising_filter h.1
  have hv : ∀ x ∈ dropByte m i, (x.2 != sentinel) = true := fun x hx => h.2 x (mem_dropByte.1 hx).1
  unfold writeByte
  split
  · exact ⟨hd, hv⟩
  · rename_i hne
    refine ⟨rising_insertByte hd fun x hx => (mem_dropByte.1 hx).2, fun x hx => ?_⟩
    rcases mem_insertByte.1 hx with rfl | hx
    · simpa using hne
    · exact hv x hx

/-- A write below TOTAL keeps every listed index below TOTAL. -/
theorem writeByte_within {sentinel : Byte} {m : Memory} {i n : Nat} {v : Byte} (h : Memory.within n m = true)
    (hi : i < n) : Memory.within n (writeByte sentinel m i v) = true := by
  simp only [Memory.within, List.all_eq_true, decide_eq_true_eq] at h ⊢
  intro x hx
  unfold writeByte at hx
  split at hx
  · exact h x (mem_dropByte.1 hx).1
  · rcases mem_insertByte.1 hx with rfl | hx
    · exact hi
    · exact h x (mem_dropByte.1 hx).1

theorem writeBytes_wf {sentinel : Byte} {m : Memory} {i : Nat} {bytes : List Byte} (h : Memory.wf sentinel m = true) :
    Memory.wf sentinel (writeBytes sentinel m i bytes) = true := by
  induction bytes generalizing m i with
  | nil => exact h
  | cons v rest ih => exact ih (writeByte_wf h)

theorem writeBytes_within {sentinel : Byte} {m : Memory} {i n : Nat} {bytes : List Byte}
    (h : Memory.within n m = true) (hi : i + bytes.length ≤ n) :
    Memory.within n (writeBytes sentinel m i bytes) = true := by
  induction bytes generalizing m i with
  | nil => exact h
  | cons v rest ih =>
    rw [List.length_cons] at hi
    exact ih (writeByte_within h (by omega)) (by omega)

theorem readByte_dropByte (sentinel : Byte) (m : Memory) (i j : Nat) :
    readByte sentinel (dropByte m i) j = if j = i then sentinel else readByte sentinel m j := by
  induction m with
  | nil => simp [dropByte, readByte]
  | cons x m ih =>
    obtain ⟨k, w⟩ := x
    simp only [dropByte] at ih ⊢
    by_cases hk : k = i
    · rw [List.filter_cons_of_neg (by simp [hk]), ih]
      by_cases hj : j = i
      · simp [hj]
      · have hne : k ≠ j := by omega
        simp [hj, readByte, hne]
    · rw [List.filter_cons_of_pos (by simp [hk])]
      simp only [readByte, ih]
      by_cases hkj : k = j
      · subst hkj; simp [hk]
      · simp [hkj]

theorem readByte_insertByte (sentinel : Byte) (m : Memory) (i j : Nat) (v : Byte) (hi : ∀ x ∈ m, x.1 ≠ i) :
    readByte sentinel (insertByte i v m) j = if j = i then v else readByte sentinel m j := by
  induction m with
  | nil =>
    simp only [insertByte, readByte]
    by_cases h : i = j
    · simp [h]
    · simp [h, Ne.symm h]
  | cons x m ih =>
    obtain ⟨k, w⟩ := x
    have hk : k ≠ i := hi (k, w) (by simp)
    unfold insertByte
    split
    · simp only [readByte]
      by_cases h : i = j
      · simp [h]
      · simp [h, Ne.symm h]
    · simp only [readByte, ih fun x hx => hi x (List.mem_cons_of_mem _ hx)]
      by_cases hkj : k = j
      · subst hkj; simp [hk]
      · simp [hkj]

/-- Read after write: the written index holds the value, every other index is as before. -/
theorem readByte_writeByte (sentinel : Byte) (m : Memory) (i j : Nat) (v : Byte) :
    readByte sentinel (writeByte sentinel m i v) j = if j = i then v else readByte sentinel m j := by
  unfold writeByte
  split
  · rename_i h
    rw [readByte_dropByte, h]
  · rw [readByte_insertByte _ _ _ _ _ fun x hx => (mem_dropByte.1 hx).2, readByte_dropByte]
    by_cases h : j = i <;> simp [h]

theorem mem_insertAddress {x y : Word} {l : List Word} : y ∈ insertAddress x l ↔ y = x ∨ y ∈ l := by
  induction l with
  | nil => simp [insertAddress]
  | cons z l ih =>
    unfold insertAddress
    split
    · simp
    · split
      · rename_i h; subst h; simp
      · simp only [List.mem_cons, ih]; tauto

/-- Adding an address keeps a breakpoint set strictly rising. -/
theorem rising_insertAddress {x : Word} {l : List Word} (h : rising (l.map (·.toNat)) = true) :
    rising ((insertAddress x l).map (·.toNat)) = true := by
  induction l with
  | nil => simp [insertAddress, rising]
  | cons z l ih =>
    have hz := rising_cons.1 h
    unfold insertAddress
    split
    · rename_i hxz
      have hxz' : x.toNat < z.toNat := BitVec.lt_def.1 hxz
      refine rising_cons.2 ⟨fun y hy => ?_, h⟩
      rcases List.mem_cons.1 hy with rfl | hy
      · exact hxz'
      · exact hxz'.trans (hz.1 y hy)
    · split
      · exact h
      · rename_i hlt hne
        refine rising_cons.2 ⟨fun y hy => ?_, ih hz.2⟩
        obtain ⟨w, hw, rfl⟩ := List.mem_map.1 hy
        rcases mem_insertAddress.1 hw with rfl | hw
        · have h1 : ¬ w.toNat < z.toNat := fun e => hlt (BitVec.lt_def.2 e)
          have h2 : w.toNat ≠ z.toNat := fun e => hne (BitVec.eq_of_toNat_eq e)
          exact Nat.lt_of_le_of_ne (Nat.le_of_not_lt h1) (Ne.symm h2)
        · exact hz.1 _ (List.mem_map.2 ⟨w, hw, rfl⟩)

end Sys2Proof.Machine
end

