-- ==== Sys2Proof/Laws/State.lean ====
section
/-! SUPPORT. What each update of the state does to each field, so that no proof unfolds a record update. -/

namespace Sys2Proof.Machine

section
variable (s : State)

@[simp] theorem advance_a (n : InstrLen) : (advance n s).a = s.a := rfl
@[simp] theorem advance_b (n : InstrLen) : (advance n s).b = s.b := rfl
@[simp] theorem advance_c (n : InstrLen) : (advance n s).c = s.c := rfl
@[simp] theorem advance_d (n : InstrLen) : (advance n s).d = s.d := rfl
@[simp] theorem advance_e (n : InstrLen) : (advance n s).e = s.e := rfl
@[simp] theorem advance_h (n : InstrLen) : (advance n s).h = s.h := rfl
@[simp] theorem advance_l (n : InstrLen) : (advance n s).l = s.l := rfl
@[simp] theorem advance_sp (n : InstrLen) : (advance n s).sp = s.sp := rfl
@[simp] theorem advance_pc (n : InstrLen) : (advance n s).pc = s.pc + BitVec.ofNat 16 n.bytes := rfl
@[simp] theorem advance_flags (n : InstrLen) : (advance n s).flags = s.flags := rfl
@[simp] theorem advance_ie (n : InstrLen) : (advance n s).ie = s.ie := rfl
@[simp] theorem advance_nsteps (n : InstrLen) : (advance n s).nsteps = s.nsteps := rfl
@[simp] theorem advance_bpWrite (n : InstrLen) : (advance n s).bpWrite = s.bpWrite := rfl
@[simp] theorem advance_bpOpcode (n : InstrLen) : (advance n s).bpOpcode = s.bpOpcode := rfl
@[simp] theorem advance_cbIn (n : InstrLen) : (advance n s).cbIn = s.cbIn := rfl
@[simp] theorem advance_cbOut (n : InstrLen) : (advance n s).cbOut = s.cbOut := rfl
@[simp] theorem advance_cbBkpt (n : InstrLen) : (advance n s).cbBkpt = s.cbBkpt := rfl
@[simp] theorem advance_cfg (n : InstrLen) : (advance n s).cfg = s.cfg := rfl
@[simp] theorem advance_store (n : InstrLen) : (advance n s).store = s.store := rfl
@[simp] theorem advance_run (n : InstrLen) : (advance n s).run = s.run := rfl
@[simp] theorem advance_trace (n : InstrLen) : (advance n s).trace = s.trace := rfl
@[simp] theorem advance_inAnswers (n : InstrLen) : (advance n s).inAnswers = s.inAnswers := rfl
@[simp] theorem advance_draws (n : InstrLen) : (advance n s).draws = s.draws := rfl
@[simp] theorem advance_notices (n : InstrLen) : (advance n s).notices = s.notices := rfl
@[simp] theorem advance_bpReads (n : InstrLen) : (advance n s).bpReads = s.bpReads := rfl
@[simp] theorem advance_hostCalls (n : InstrLen) : (advance n s).hostCalls = s.hostCalls := rfl

@[simp] theorem jumpTo_a (x : Word) : (jumpTo x s).a = s.a := rfl
@[simp] theorem jumpTo_b (x : Word) : (jumpTo x s).b = s.b := rfl
@[simp] theorem jumpTo_c (x : Word) : (jumpTo x s).c = s.c := rfl
@[simp] theorem jumpTo_d (x : Word) : (jumpTo x s).d = s.d := rfl
@[simp] theorem jumpTo_e (x : Word) : (jumpTo x s).e = s.e := rfl
@[simp] theorem jumpTo_h (x : Word) : (jumpTo x s).h = s.h := rfl
@[simp] theorem jumpTo_l (x : Word) : (jumpTo x s).l = s.l := rfl
@[simp] theorem jumpTo_sp (x : Word) : (jumpTo x s).sp = s.sp := rfl
@[simp] theorem jumpTo_pc (x : Word) : (jumpTo x s).pc = x := rfl
@[simp] theorem jumpTo_flags (x : Word) : (jumpTo x s).flags = s.flags := rfl
@[simp] theorem jumpTo_ie (x : Word) : (jumpTo x s).ie = s.ie := rfl
@[simp] theorem jumpTo_nsteps (x : Word) : (jumpTo x s).nsteps = s.nsteps := rfl
@[simp] theorem jumpTo_bpWrite (x : Word) : (jumpTo x s).bpWrite = s.bpWrite := rfl
@[simp] theorem jumpTo_bpOpcode (x : Word) : (jumpTo x s).bpOpcode = s.bpOpcode := rfl
@[simp] theorem jumpTo_cbIn (x : Word) : (jumpTo x s).cbIn = s.cbIn := rfl
@[simp] theorem jumpTo_cbOut (x : Word) : (jumpTo x s).cbOut = s.cbOut := rfl
@[simp] theorem jumpTo_cbBkpt (x : Word) : (jumpTo x s).cbBkpt = s.cbBkpt := rfl
@[simp] theorem jumpTo_cfg (x : Word) : (jumpTo x s).cfg = s.cfg := rfl
@[simp] theorem jumpTo_store (x : Word) : (jumpTo x s).store = s.store := rfl
@[simp] theorem jumpTo_run (x : Word) : (jumpTo x s).run = s.run := rfl
@[simp] theorem jumpTo_trace (x : Word) : (jumpTo x s).trace = s.trace := rfl
@[simp] theorem jumpTo_inAnswers (x : Word) : (jumpTo x s).inAnswers = s.inAnswers := rfl
@[simp] theorem jumpTo_draws (x : Word) : (jumpTo x s).draws = s.draws := rfl
@[simp] theorem jumpTo_notices (x : Word) : (jumpTo x s).notices = s.notices := rfl
@[simp] theorem jumpTo_bpReads (x : Word) : (jumpTo x s).bpReads = s.bpReads := rfl
@[simp] theorem jumpTo_hostCalls (x : Word) : (jumpTo x s).hostCalls = s.hostCalls := rfl

@[simp] theorem emit_a (ev : Event) : (emit ev s).a = s.a := rfl
@[simp] theorem emit_b (ev : Event) : (emit ev s).b = s.b := rfl
@[simp] theorem emit_c (ev : Event) : (emit ev s).c = s.c := rfl
@[simp] theorem emit_d (ev : Event) : (emit ev s).d = s.d := rfl
@[simp] theorem emit_e (ev : Event) : (emit ev s).e = s.e := rfl
@[simp] theorem emit_h (ev : Event) : (emit ev s).h = s.h := rfl
@[simp] theorem emit_l (ev : Event) : (emit ev s).l = s.l := rfl
@[simp] theorem emit_sp (ev : Event) : (emit ev s).sp = s.sp := rfl
@[simp] theorem emit_pc (ev : Event) : (emit ev s).pc = s.pc := rfl
@[simp] theorem emit_flags (ev : Event) : (emit ev s).flags = s.flags := rfl
@[simp] theorem emit_ie (ev : Event) : (emit ev s).ie = s.ie := rfl
@[simp] theorem emit_nsteps (ev : Event) : (emit ev s).nsteps = s.nsteps := rfl
@[simp] theorem emit_bpWrite (ev : Event) : (emit ev s).bpWrite = s.bpWrite := rfl
@[simp] theorem emit_bpOpcode (ev : Event) : (emit ev s).bpOpcode = s.bpOpcode := rfl
@[simp] theorem emit_cbIn (ev : Event) : (emit ev s).cbIn = s.cbIn := rfl
@[simp] theorem emit_cbOut (ev : Event) : (emit ev s).cbOut = s.cbOut := rfl
@[simp] theorem emit_cbBkpt (ev : Event) : (emit ev s).cbBkpt = s.cbBkpt := rfl
@[simp] theorem emit_cfg (ev : Event) : (emit ev s).cfg = s.cfg := rfl
@[simp] theorem emit_store (ev : Event) : (emit ev s).store = s.store := rfl
@[simp] theorem emit_run (ev : Event) : (emit ev s).run = s.run := rfl
@[simp] theorem emit_trace (ev : Event) : (emit ev s).trace = ev :: s.trace := rfl
@[simp] theorem emit_inAnswers (ev : Event) : (emit ev s).inAnswers = s.inAnswers := rfl
@[simp] theorem emit_draws (ev : Event) : (emit ev s).draws = s.draws := rfl
@[simp] theorem emit_notices (ev : Event) : (emit ev s).notices = s.notices := rfl
@[simp] theorem emit_bpReads (ev : Event) : (emit ev s).bpReads = s.bpReads := rfl
@[simp] theorem emit_hostCalls (ev : Event) : (emit ev s).hostCalls = s.hostCalls := rfl

@[simp] theorem countStep_a : (countStep s).a = s.a := rfl
@[simp] theorem countStep_b : (countStep s).b = s.b := rfl
@[simp] theorem countStep_c : (countStep s).c = s.c := rfl
@[simp] theorem countStep_d : (countStep s).d = s.d := rfl
@[simp] theorem countStep_e : (countStep s).e = s.e := rfl
@[simp] theorem countStep_h : (countStep s).h = s.h := rfl
@[simp] theorem countStep_l : (countStep s).l = s.l := rfl
@[simp] theorem countStep_sp : (countStep s).sp = s.sp := rfl
@[simp] theorem countStep_pc : (countStep s).pc = s.pc := rfl
@[simp] theorem countStep_flags : (countStep s).flags = s.flags := rfl
@[simp] theorem countStep_ie : (countStep s).ie = s.ie := rfl
@[simp] theorem countStep_nsteps : (countStep s).nsteps = s.nsteps + 1 := rfl
@[simp] theorem countStep_bpWrite : (countStep s).bpWrite = s.bpWrite := rfl
@[simp] theorem countStep_bpOpcode : (countStep s).bpOpcode = s.bpOpcode := rfl
@[simp] theorem countStep_cbIn : (countStep s).cbIn = s.cbIn := rfl
@[simp] theorem countStep_cbOut : (countStep s).cbOut = s.cbOut := rfl
@[simp] theorem countStep_cbBkpt : (countStep s).cbBkpt = s.cbBkpt := rfl
@[simp] theorem countStep_cfg : (countStep s).cfg = s.cfg := rfl
@[simp] theorem countStep_store : (countStep s).store = s.store := rfl
@[simp] theorem countStep_run : (countStep s).run = s.run := rfl
@[simp] theorem countStep_trace : (countStep s).trace = s.trace := rfl
@[simp] theorem countStep_inAnswers : (countStep s).inAnswers = s.inAnswers := rfl
@[simp] theorem countStep_draws : (countStep s).draws = s.draws := rfl
@[simp] theorem countStep_notices : (countStep s).notices = s.notices := rfl
@[simp] theorem countStep_bpReads : (countStep s).bpReads = s.bpReads := rfl
@[simp] theorem countStep_hostCalls : (countStep s).hostCalls = s.hostCalls := rfl

@[simp] theorem setPSW_a (v : Word) : (setPSW v s).a = highByte v := rfl
@[simp] theorem setPSW_b (v : Word) : (setPSW v s).b = s.b := rfl
@[simp] theorem setPSW_c (v : Word) : (setPSW v s).c = s.c := rfl
@[simp] theorem setPSW_d (v : Word) : (setPSW v s).d = s.d := rfl
@[simp] theorem setPSW_e (v : Word) : (setPSW v s).e = s.e := rfl
@[simp] theorem setPSW_h (v : Word) : (setPSW v s).h = s.h := rfl
@[simp] theorem setPSW_l (v : Word) : (setPSW v s).l = s.l := rfl
@[simp] theorem setPSW_sp (v : Word) : (setPSW v s).sp = s.sp := rfl
@[simp] theorem setPSW_pc (v : Word) : (setPSW v s).pc = s.pc := rfl
@[simp] theorem setPSW_flags (v : Word) : (setPSW v s).flags = unpackF (lowByte v) := rfl
@[simp] theorem setPSW_ie (v : Word) : (setPSW v s).ie = s.ie := rfl
@[simp] theorem setPSW_nsteps (v : Word) : (setPSW v s).nsteps = s.nsteps := rfl
@[simp] theorem setPSW_bpWrite (v : Word) : (setPSW v s).bpWrite = s.bpWrite := rfl
@[simp] theorem setPSW_bpOpcode (v : Word) : (setPSW v s).bpOpcode = s.bpOpcode := rfl
@[simp] theorem setPSW_cbIn (v : Word) : (setPSW v s).cbIn = s.cbIn := rfl
@[simp] theorem setPSW_cbOut (v : Word) : (setPSW v s).cbOut = s.cbOut := rfl
@[simp] theorem setPSW_cbBkpt (v : Word) : (setPSW v s).cbBkpt = s.cbBkpt := rfl
@[simp] theorem setPSW_cfg (v : Word) : (setPSW v s).cfg = s.cfg := rfl
@[simp] theorem setPSW_store (v : Word) : (setPSW v s).store = s.store := rfl
@[simp] theorem setPSW_run (v : Word) : (setPSW v s).run = s.run := rfl
@[simp] theorem setPSW_trace (v : Word) : (setPSW v s).trace = s.trace := rfl
@[simp] theorem setPSW_inAnswers (v : Word) : (setPSW v s).inAnswers = s.inAnswers := rfl
@[simp] theorem setPSW_draws (v : Word) : (setPSW v s).draws = s.draws := rfl
@[simp] theorem setPSW_notices (v : Word) : (setPSW v s).notices = s.notices := rfl
@[simp] theorem setPSW_bpReads (v : Word) : (setPSW v s).bpReads = s.bpReads := rfl
@[simp] theorem setPSW_hostCalls (v : Word) : (setPSW v s).hostCalls = s.hostCalls := rfl

@[simp] theorem setReg_sp (r : Reg8) (v : Byte) : (setReg r v s).sp = s.sp := by cases r <;> rfl
@[simp] theorem setReg_pc (r : Reg8) (v : Byte) : (setReg r v s).pc = s.pc := by cases r <;> rfl
@[simp] theorem setReg_flags (r : Reg8) (v : Byte) : (setReg r v s).flags = s.flags := by cases r <;> rfl
@[simp] theorem setReg_ie (r : Reg8) (v : Byte) : (setReg r v s).ie = s.ie := by cases r <;> rfl
@[simp] theorem setReg_nsteps (r : Reg8) (v : Byte) : (setReg r v s).nsteps = s.nsteps := by cases r <;> rfl
@[simp] theorem setReg_bpWrite (r : Reg8) (v : Byte) : (setReg r v s).bpWrite = s.bpWrite := by cases r <;> rfl
@[simp] theorem setReg_bpOpcode (r : Reg8) (v : Byte) : (setReg r v s).bpOpcode = s.bpOpcode := by cases r <;> rfl
@[simp] theorem setReg_cbIn (r : Reg8) (v : Byte) : (setReg r v s).cbIn = s.cbIn := by cases r <;> rfl
@[simp] theorem setReg_cbOut (r : Reg8) (v : Byte) : (setReg r v s).cbOut = s.cbOut := by cases r <;> rfl
@[simp] theorem setReg_cbBkpt (r : Reg8) (v : Byte) : (setReg r v s).cbBkpt = s.cbBkpt := by cases r <;> rfl
@[simp] theorem setReg_cfg (r : Reg8) (v : Byte) : (setReg r v s).cfg = s.cfg := by cases r <;> rfl
@[simp] theorem setReg_store (r : Reg8) (v : Byte) : (setReg r v s).store = s.store := by cases r <;> rfl
@[simp] theorem setReg_run (r : Reg8) (v : Byte) : (setReg r v s).run = s.run := by cases r <;> rfl
@[simp] theorem setReg_trace (r : Reg8) (v : Byte) : (setReg r v s).trace = s.trace := by cases r <;> rfl
@[simp] theorem setReg_inAnswers (r : Reg8) (v : Byte) : (setReg r v s).inAnswers = s.inAnswers := by cases r <;> rfl
@[simp] theorem setReg_draws (r : Reg8) (v : Byte) : (setReg r v s).draws = s.draws := by cases r <;> rfl
@[simp] theorem setReg_notices (r : Reg8) (v : Byte) : (setReg r v s).notices = s.notices := by cases r <;> rfl
@[simp] theorem setReg_bpReads (r : Reg8) (v : Byte) : (setReg r v s).bpReads = s.bpReads := by cases r <;> rfl
@[simp] theorem setReg_hostCalls (r : Reg8) (v : Byte) : (setReg r v s).hostCalls = s.hostCalls := by cases r <;> rfl

@[simp] theorem setPair_a (p : Pair) (v : Word) : (setPair p v s).a = s.a := by cases p <;> rfl
@[simp] theorem setPair_pc (p : Pair) (v : Word) : (setPair p v s).pc = s.pc := by cases p <;> rfl
@[simp] theorem setPair_flags (p : Pair) (v : Word) : (setPair p v s).flags = s.flags := by cases p <;> rfl
@[simp] theorem setPair_ie (p : Pair) (v : Word) : (setPair p v s).ie = s.ie := by cases p <;> rfl
@[simp] theorem setPair_nsteps (p : Pair) (v : Word) : (setPair p v s).nsteps = s.nsteps := by cases p <;> rfl
@[simp] theorem setPair_bpWrite (p : Pair) (v : Word) : (setPair p v s).bpWrite = s.bpWrite := by cases p <;> rfl
@[simp] theorem setPair_bpOpcode (p : Pair) (v : Word) : (setPair p v s).bpOpcode = s.bpOpcode := by cases p <;> rfl
@[simp] theorem setPair_cbIn (p : Pair) (v : Word) : (setPair p v s).cbIn = s.cbIn := by cases p <;> rfl
@[simp] theorem setPair_cbOut (p : Pair) (v : Word) : (setPair p v s).cbOut = s.cbOut := by cases p <;> rfl
@[simp] theorem setPair_cbBkpt (p : Pair) (v : Word) : (setPair p v s).cbBkpt = s.cbBkpt := by cases p <;> rfl
@[simp] theorem setPair_cfg (p : Pair) (v : Word) : (setPair p v s).cfg = s.cfg := by cases p <;> rfl
@[simp] theorem setPair_store (p : Pair) (v : Word) : (setPair p v s).store = s.store := by cases p <;> rfl
@[simp] theorem setPair_run (p : Pair) (v : Word) : (setPair p v s).run = s.run := by cases p <;> rfl
@[simp] theorem setPair_trace (p : Pair) (v : Word) : (setPair p v s).trace = s.trace := by cases p <;> rfl
@[simp] theorem setPair_inAnswers (p : Pair) (v : Word) : (setPair p v s).inAnswers = s.inAnswers := by cases p <;> rfl
@[simp] theorem setPair_draws (p : Pair) (v : Word) : (setPair p v s).draws = s.draws := by cases p <;> rfl
@[simp] theorem setPair_notices (p : Pair) (v : Word) : (setPair p v s).notices = s.notices := by cases p <;> rfl
@[simp] theorem setPair_bpReads (p : Pair) (v : Word) : (setPair p v s).bpReads = s.bpReads := by cases p <;> rfl
@[simp] theorem setPair_hostCalls (p : Pair) (v : Word) : (setPair p v s).hostCalls = s.hostCalls := by cases p <;> rfl

end

@[simp] theorem getReg_setReg_same (r : Reg8) (v : Byte) (s : State) : getReg r (setReg r v s) = v := by
  cases r <;> rfl

theorem getReg_setReg_other {r q : Reg8} (h : q ≠ r) (v : Byte) (s : State) :
    getReg q (setReg r v s) = getReg q s := by
  cases r <;> cases q <;> first | rfl | exact absurd rfl h

@[simp] theorem highByte_concat (hi lo : Byte) : highByte (concat hi lo) = hi := by
  apply BitVec.eq_of_toNat_eq
  have := hi.isLt; have := lo.isLt
  simp only [highByte, concat, BitVec.extractLsb'_toNat, BitVec.toNat_ofNat, Nat.shiftRight_eq_div_pow]
  omega

@[simp] theorem lowByte_concat (hi lo : Byte) : lowByte (concat hi lo) = lo := by
  apply BitVec.eq_of_toNat_eq
  have := hi.isLt; have := lo.isLt
  simp only [lowByte, concat, BitVec.extractLsb'_toNat, BitVec.toNat_ofNat, Nat.shiftRight_eq_div_pow]
  omega

@[simp] theorem concat_highByte_lowByte (v : Word) : concat (highByte v) (lowByte v) = v := by
  apply BitVec.eq_of_toNat_eq
  have := v.isLt
  simp only [highByte, lowByte, concat, BitVec.extractLsb'_toNat, BitVec.toNat_ofNat, Nat.shiftRight_eq_div_pow]
  omega

@[simp] theorem getPair_setPair_same (p : Pair) (v : Word) (s : State) : getPair p (setPair p v s) = v := by
  cases p <;> simp [getPair, setPair, getBC, getDE, getHL]

end Sys2Proof.Machine
end

