-- ==== Sys2Proof/Laws/Ops.lean ====
section
/-! SUPPORT. One lemma per shared operation that says once everything it can do: when it answers a next state, and which.
Proofs about meanings cite these and unfold no operation. -/

namespace Sys2Proof.Machine

variable {s t : State}

@[simp] theorem andThen_next {α β : Type} (v : α) (k : α → Host.Outcome β Fault Refusal) :
    andThen (.next v) k = k v := rfl

@[simp] theorem andThen_fault {α β : Type} (f : Fault) (k : α → Host.Outcome β Fault Refusal) :
    andThen (.fault f) k = .fault f := rfl

@[simp] theorem andThen_refused {α β : Type} (r : Refusal) (k : α → Host.Outcome β Fault Refusal) :
    andThen (.refused r) k = .refused r := rfl

theorem andThen_eq_next {α β : Type} {x : Host.Outcome α Fault Refusal} {k : α → Host.Outcome β Fault Refusal} {w : β} :
    andThen x k = .next w ↔ ∃ v, x = .next v ∧ k v = .next w := by
  cases x <;> simp

theorem raiseFault_ne_next {α : Type} (i : FaultInfo) (s : State) (v : α) : raiseFault i s ≠ .next v := by
  cases i <;> simp [raiseFault]

theorem refuse_ne_next {α : Type} (i : RefusalInfo) (s : State) (v : α) : refuse i s ≠ .next v := by
  cases i <;> simp [refuse]

/-! ### Folding (R74) -/

theorem fold_unmirrored {g : MachineConfig} (h : g.ramMirrored = false) (x : Word) : fold g x = x.toNat := by
  simp [fold, h]

theorem foldLoop_below {total ram n i : Nat} (h : i < total) : foldLoop total ram n i = i := by
  cases n with
  | zero => rfl
  | succ n => rw [foldLoop, if_neg (by omega)]

theorem fold_below {g : MachineConfig} {x : Word} (h : x.toNat < totalSize g) : fold g x = x.toNat := by
  unfold fold
  split
  · exact foldLoop_below h
  · rfl

/-- With a period of at least 1 and enough turns, the loop ends below TOTAL, at least at ROM_SIZE when it subtracted at
all, and a whole number of periods below where it began. -/
theorem foldLoop_spec {rom ram n i : Nat} (hr : 1 ≤ ram) (hi : i ≤ n) :
    foldLoop (rom + ram) ram n i < rom + ram ∧
      (rom + ram ≤ i → rom ≤ foldLoop (rom + ram) ram n i) ∧
      ∃ k, i = foldLoop (rom + ram) ram n i + k * ram := by
  induction n generalizing i with
  | zero =>
    obtain rfl : i = 0 := by omega
    exact ⟨by simp [foldLoop]; omega, by omega, 0, by simp [foldLoop]⟩
  | succ n ih =>
    by_cases h : rom + ram ≤ i
    · rw [foldLoop, if_pos h]
      obtain ⟨h1, h2, k, hk⟩ := ih (i := i - ram) (by omega)
      refine ⟨h1, fun _ => ?_, k + 1, ?_⟩
      · by_cases h' : rom + ram ≤ i - ram
        · exact h2 h'
        · rw [foldLoop_below (by omega)]; omega
      · rw [Nat.add_mul]; omega
    · rw [foldLoop_below (by omega)]
      exact ⟨by omega, fun h' => absurd h' h, 0, by omega⟩

theorem fold_mirrored {g : MachineConfig} (hm : g.ramMirrored = true) (hr : 1 ≤ g.ramSize) (x : Word) :
    fold g x < totalSize g ∧ (totalSize g ≤ x.toNat → g.romSize ≤ fold g x) ∧
      ∃ k, x.toNat = fold g x + k * g.ramSize := by
  simp only [fold, hm, if_true, totalSize]
  exact foldLoop_spec hr (Nat.le_refl _)

/-! ### Memory (R76, R77) -/

theorem memRead_of_readable {x : Word} (h : Readable s x) : memRead x s = .next (byteAt s x) := by
  simp only [memRead, byteAt]; exact if_pos h

theorem memRead_of_not_readable {x : Word} (h : ¬ Readable s x) :
    memRead x s = .fault (.memReadOutOfBounds x (fold s.cfg x)
      { s with run := .faulted (.memReadOutOfBounds x (fold s.cfg x)) }) := if_neg h

theorem memRead_eq_next {x : Word} {v : Byte} : memRead x s = .next v ↔ Readable s x ∧ v = byteAt s x := by
  constructor
  · intro h
    by_cases hr : Readable s x
    · rw [memRead_of_readable hr] at h
      exact ⟨hr, by injection h with h; exact h.symm⟩
    · have h' : memRead x s = raiseFault (.memReadOutOfBounds x (fold s.cfg x)) s := if_neg hr
      exact absurd (h'.symm.trans h) (raiseFault_ne_next _ _ _)
  · rintro ⟨hr, rfl⟩; exact memRead_of_readable hr

/-! ### Breakpoint notifications (R320, R321, R335) -/

/-- Everything the reads of a callback can do: nothing, or the fault of the first that is out of bounds. -/
theorem callbackReads_eq (l : List Word) (s : State) : callbackReads l s =
    match l.find? fun r => decide (totalSize s.cfg ≤ fold s.cfg r) with
    | none => .next s
    | some r => raiseFault (.memReadOutOfBounds r (fold s.cfg r)) s := by
  induction l with
  | nil => rfl
  | cons r rest ih =>
    by_cases h : Readable s r
    · rw [callbackReads, memRead_of_readable h, andThen_next, ih,
        List.find?_cons_of_neg (by simpa [Readable] using h)]
    · rw [callbackReads, memRead_of_not_readable h, List.find?_cons_of_pos (by simpa [Readable] using h)]
      rfl

theorem callbackReads_eq_next {l : List Word} : callbackReads l s = .next t ↔ (∀ r ∈ l, Readable s r) ∧ t = s := by
  rw [callbackReads_eq]
  cases h : l.find? fun r => decide (totalSize s.cfg ≤ fold s.cfg r) with
  | none =>
    have h' : ∀ r ∈ l, Readable s r := by simpa [List.find?_eq_none, Readable] using h
    exact ⟨fun e => ⟨h', by injection e with e; exact e.symm⟩, fun e => by rw [e.2]⟩
  | some r =>
    refine ⟨fun h' => absurd h' (raiseFault_ne_next _ _ _), fun h' => ?_⟩
    have h1 := List.find?_some h
    have h2 := h'.1 r (List.mem_of_find?_eq_some h)
    simp only [decide_eq_true_eq] at h1
    simp only [Readable] at h2
    omega

theorem notify_absent {k : BreakpointKind} {x : Word} {v : Byte} (h : s.cbBkpt = false) : notify k x v s = .next s := by
  simp [notify, h]

theorem notify_present {k : BreakpointKind} {x : Word} {v : Byte} (h : s.cbBkpt = true) : notify k x v s =
    callbackReads (s.bpReads.headD [])
      { s with trace := .breakpoint k x v :: s.trace, bpReads := s.bpReads.tail } := by
  rw [notify, if_pos h]; rfl

theorem notifyWrite_hit {x : Word} {v : Byte} (h : notifies s x = true) : notifyWrite x v s =
    callbackReads (s.bpReads.headD [])
      { s with trace := writeNotice s x v ++ s.trace, bpReads := readsLeft s x } := by
  have h' := h
  simp only [notifies, Bool.and_eq_true] at h'
  rw [notifyWrite, if_pos h'.1, notify_present h'.2, writeNotice, readsLeft, if_pos h, if_pos h]
  rfl

theorem notifyWrite_miss {x : Word} {v : Byte} (h : notifies s x = false) :
    notifyWrite x v s = .next s := by
  rw [notifyWrite]
  split
  · rename_i h'
    exact notify_absent (by simpa only [notifies, h', Bool.true_and] using h)
  · rfl

/-- A write's notification goes on exactly when its callback reads nothing out of bounds. -/
theorem notifyWrite_eq_next {x : Word} {v : Byte} : notifyWrite x v s = .next t ↔
    CallbackInBounds s x ∧ t = { s with trace := writeNotice s x v ++ s.trace, bpReads := readsLeft s x } := by
  cases h : notifies s x with
  | true =>
    rw [notifyWrite_hit h, callbackReads_eq_next]
    exact and_congr_left fun _ => ⟨fun h' _ => h', fun h' => h' h⟩
  | false =>
    rw [notifyWrite_miss h, writeNotice, readsLeft, h]
    exact ⟨fun e => ⟨fun h' => absurd h' (by simp [h]), by injection e with e; exact e.symm⟩, fun e => by rw [e.2]; rfl⟩

theorem storeByte_of_writable {x : Word} {v : Byte} (h : Writable s x) :
    storeByte x v s = .next { s with store := writeByte s.cfg.sentinel s.store (fold s.cfg x) v } := by
  obtain ⟨h1, h2⟩ := h
  have h3 : ¬ (fold s.cfg x < s.cfg.romSize && !s.cfg.romWriteable) = true := by
    simp only [Bool.and_eq_true, decide_eq_true_eq, Bool.not_eq_true', not_and, Bool.not_eq_false]
    intro h4
    rcases h2 with h2 | h2
    · omega
    · exact h2
  simp only [storeByte]
  rw [if_neg (by omega), if_neg h3]

theorem storeByte_eq_next {x : Word} {v : Byte} : storeByte x v s = .next t ↔
    Writable s x ∧ t = { s with store := writeByte s.cfg.sentinel s.store (fold s.cfg x) v } := by
  constructor
  · intro h
    by_cases hw : Writable s x
    · rw [storeByte_of_writable hw] at h
      exact ⟨hw, by injection h with h; exact h.symm⟩
    · exfalso
      simp only [storeByte] at h
      split at h
      · exact raiseFault_ne_next _ _ _ h
      · split at h
        · exact raiseFault_ne_next _ _ _ h
        · rename_i h1 h2
          refine hw ⟨by omega, ?_⟩
          by_cases h3 : s.cfg.romWriteable = true
          · exact .inr h3
          · exact .inl (by simpa [h3] using h2)
  · rintro ⟨hw, rfl⟩; exact storeByte_of_writable hw

/-- An admitted write: the byte is stored at its folded index, its events are recorded and its callback's reads are
used up; nothing else changes. -/
theorem memWrite_of_writable {x : Word} {v : Byte} (hc : CallbackInBounds s x) (h : Writable s x) :
    memWrite x v s = .next { s with
      store := writeByte s.cfg.sentinel s.store (fold s.cfg x) v
      trace := writeEvents s x v ++ s.trace
      bpReads := readsLeft s x } := by
  rw [memWrite, notifyWrite_eq_next.2 ⟨hc, rfl⟩, andThen_next, storeByte_of_writable (by exact h)]
  rfl

/-- A write that is not admitted: the notification is made, nothing is stored, and the fault is out of bounds first, ROM
protection second. -/
theorem memWrite_of_not_writable {x : Word} {v : Byte} (hc : CallbackInBounds s x) (h : ¬ Writable s x) :
    memWrite x v s =
      if totalSize s.cfg ≤ fold s.cfg x then
        raiseFault (.memWriteOutOfBounds x (fold s.cfg x) v)
          { s with trace := writeNotice s x v ++ s.trace, bpReads := readsLeft s x }
      else
        raiseFault (.romWriteProtected x (fold s.cfg x) v)
          { s with trace := writeNotice s x v ++ s.trace, bpReads := readsLeft s x } := by
  rw [memWrite, notifyWrite_eq_next.2 ⟨hc, rfl⟩, andThen_next]
  by_cases h1 : totalSize s.cfg ≤ fold s.cfg x
  · simp only [storeByte]
    rw [if_pos h1, if_pos h1]
    rfl
  · have h2 : (fold s.cfg x < s.cfg.romSize && !s.cfg.romWriteable) = true := by
      simp only [Writable, not_and_or, not_or] at h
      simp only [Bool.and_eq_true, decide_eq_true_eq, Bool.not_eq_true']
      rcases h with h | ⟨ha, hb⟩
      · omega
      · exact ⟨by omega, by simpa using hb⟩
    simp only [storeByte]
    rw [if_neg h1, if_neg h1]
    simp only [h2, if_true]
    rfl

/-- A write whose callback reads out of bounds: the notification is made, and the read's fault ends it before the store
and before the write's own checks. -/
theorem memWrite_of_callback_fault {x r : Word} {v : Byte} (h : notifies s x = true)
    (hr : ((s.bpReads.headD []).find? fun r => decide (totalSize s.cfg ≤ fold s.cfg r)) = some r) :
    memWrite x v s = raiseFault (.memReadOutOfBounds r (fold s.cfg r))
      { s with trace := writeNotice s x v ++ s.trace, bpReads := readsLeft s x } := by
  rw [memWrite, notifyWrite_hit h, callbackReads_eq]
  simp only [hr]
  rfl

theorem memWrite_eq_next {x : Word} {v : Byte} : memWrite x v s = .next t ↔
    CallbackInBounds s x ∧ Writable s x ∧ t = { s with
      store := writeByte s.cfg.sentinel s.store (fold s.cfg x) v
      trace := writeEvents s x v ++ s.trace
      bpReads := readsLeft s x } := by
  constructor
  · intro h
    have h' := h
    rw [memWrite, andThen_eq_next] at h'
    obtain ⟨u, hu, h'⟩ := h'
    obtain ⟨hc, rfl⟩ := notifyWrite_eq_next.1 hu
    rw [andThen_eq_next] at h'
    obtain ⟨w, hw, -⟩ := h'
    have hw : Writable s x := (storeByte_eq_next.1 hw).1
    rw [memWrite_of_writable hc hw] at h
    exact ⟨hc, hw, by injection h with h; exact h.symm⟩
  · rintro ⟨hc, hw, rfl⟩; exact memWrite_of_writable hc hw

/-! ### The stack (R210) -/

/-- A push of two admitted bytes. -/
theorem push16_of_writable {v : Word} (c1 : CallbackInBounds s (s.sp - 1)) (h1 : Writable s (s.sp - 1))
    (c2 : CallbackInBounds { s with bpReads := readsLeft s (s.sp - 1) } (s.sp - 2)) (h2 : Writable s (s.sp - 2)) :
    push16 v s = .next { s with
      sp := s.sp - 2
      store := writeByte s.cfg.sentinel
        (writeByte s.cfg.sentinel s.store (fold s.cfg (s.sp - 1)) (highByte v)) (fold s.cfg (s.sp - 2)) (lowByte v)
      trace := writeEvents s (s.sp - 2) (lowByte v) ++ (writeEvents s (s.sp - 1) (highByte v) ++ s.trace)
      bpReads := readsLeft { s with bpReads := readsLeft s (s.sp - 1) } (s.sp - 2) } := by
  rw [push16, memWrite_of_writable c1 h1, andThen_next, memWrite_of_writable (by exact c2) (by exact h2)]
  rfl

theorem push16_eq_next {v : Word} : push16 v s = .next t ↔
    CallbackInBounds s (s.sp - 1) ∧ Writable s (s.sp - 1) ∧
    CallbackInBounds { s with bpReads := readsLeft s (s.sp - 1) } (s.sp - 2) ∧ Writable s (s.sp - 2) ∧
    t = { s with
      sp := s.sp - 2
      store := writeByte s.cfg.sentinel
        (writeByte s.cfg.sentinel s.store (fold s.cfg (s.sp - 1)) (highByte v)) (fold s.cfg (s.sp - 2)) (lowByte v)
      trace := writeEvents s (s.sp - 2) (lowByte v) ++ (writeEvents s (s.sp - 1) (highByte v) ++ s.trace)
      bpReads := readsLeft { s with bpReads := readsLeft s (s.sp - 1) } (s.sp - 2) } := by
  constructor
  · intro h
    have h' := h
    rw [push16, andThen_eq_next] at h'
    obtain ⟨u, hu, h'⟩ := h'
    obtain ⟨c1, h1, rfl⟩ := memWrite_eq_next.1 hu
    rw [andThen_eq_next] at h'
    obtain ⟨w, hw, -⟩ := h'
    obtain ⟨c2, h2, -⟩ := memWrite_eq_next.1 hw
    rw [push16_of_writable c1 h1 c2 h2] at h
    exact ⟨c1, h1, c2, h2, by injection h with h; exact h.symm⟩
  · rintro ⟨c1, h1, c2, h2, rfl⟩; exact push16_of_writable c1 h1 c2 h2

/-- A pop of two readable bytes. -/
theorem pop16_of_readable (h1 : Readable s s.sp) (h2 : Readable s (s.sp + 1)) :
    pop16 s = .next (concat (byteAt s (s.sp + 1)) (byteAt s s.sp), { s with sp := s.sp + 2 }) := by
  rw [pop16, memRead_of_readable h1, andThen_next, memRead_of_readable h2]
  rfl

theorem pop16_eq_next {r : Word × State} : pop16 s = .next r ↔
    Readable s s.sp ∧ Readable s (s.sp + 1) ∧
      r = (concat (byteAt s (s.sp + 1)) (byteAt s s.sp), { s with sp := s.sp + 2 }) := by
  constructor
  · intro h
    have h' := h
    rw [pop16, andThen_eq_next] at h'
    obtain ⟨u, hu, h'⟩ := h'
    rw [andThen_eq_next] at h'
    obtain ⟨w, hw, -⟩ := h'
    have h1 := (memRead_eq_next.1 hu).1
    have h2 := (memRead_eq_next.1 hw).1
    rw [pop16_of_readable h1 h2] at h
    exact ⟨h1, h2, by injection h with h; exact h.symm⟩
  · rintro ⟨h1, h2, rfl⟩; exact pop16_of_readable h1 h2

theorem callTo_eq_next {ret target : Word} : callTo ret target s = .next t ↔
    ∃ u, push16 ret s = .next u ∧ t = jumpTo target u := by
  rw [callTo, andThen_eq_next]
  simp [eq_comm]

theorem returnTo_eq_next : returnTo s = .next t ↔ ∃ r, pop16 s = .next r ∧ t = jumpTo r.1 r.2 := by
  rw [returnTo, andThen_eq_next]
  simp [eq_comm]

/-! ### The step (R110) -/

/-- Everything the opcode breakpoint test can do (R322): nothing, or a notification with its callback's reads. -/
theorem opcodeBreakpoint_eq (s : State) : opcodeBreakpoint s =
    if s.run = .running ∧ s.pc ∈ s.bpOpcode ∧ s.cbBkpt = true then
      callbackReads (s.bpReads.headD []) { s with
        trace := .breakpoint .opcodeReached s.pc (Config.noticeValue s.notices) :: s.trace
        notices := s.notices + 1
        bpReads := s.bpReads.tail }
    else .next s := by
  simp only [opcodeBreakpoint, List.contains_iff_mem]
  split
  · rename_i h; exact notify_present h.2.2
  · rfl

/-- A step of a running machine with no host call waiting: fetch, execute, test the opcode breakpoint. -/
theorem step_running (hh : s.hostCalls = []) (hr : s.run = .running) : step s =
    andThen (fetchInstr (countStep s)) fun i => andThen (exec i (countStep s)) opcodeBreakpoint := by
  simp only [step, nextTransaction, hh, instrStep]
  rw [if_pos hr]

/-! ### Dispatch (R111) -/

theorem dispatch_implemented {op : Byte} {rule : State → Host.Outcome State Fault Refusal}
    (h : implemented s.cfg op = true) : dispatch op rule s = rule s := if_pos h

theorem dispatch_unimplemented {op : Byte} {rule : State → Host.Outcome State Fault Refusal}
    (h : implemented s.cfg op = false) : dispatch op rule s = fallback op s := if_neg (by simp [h])

/-- Everything a dispatched instruction can do: its rule, or the fallback. -/
theorem dispatch_cases {op : Byte} {rule : State → Host.Outcome State Fault Refusal}
    {o : Host.Outcome State Fault Refusal} (h : dispatch op rule s = o) :
    (implemented s.cfg op = true ∧ rule s = o) ∨ (implemented s.cfg op = false ∧ fallback op s = o) := by
  cases hi : implemented s.cfg op with
  | true => exact .inl ⟨rfl, (dispatch_implemented hi).symm.trans h⟩
  | false => exact .inr ⟨rfl, (dispatch_unimplemented hi).symm.trans h⟩

end Sys2Proof.Machine
end

