-- ==== Sys2Proof/Laws/PerInstr.lean ====
section
/-! SUPPORT. Per-instruction facts about the syntax: the number of bytes of an instruction's encoding is the length R109
gives its opcode byte. One lemma per constructor. -/

namespace Sys2Proof.Laws.LengthOfOpcode

/-- The encoding has as many bytes as R109 gives the opcode byte. -/
def Statement (i : Instr) : Prop := (encode i).length = (opcodeLen i.opcode).bytes

theorem lxiB (d16 : Word) : Statement (.lxiB d16) := rfl
theorem lxiD (d16 : Word) : Statement (.lxiD d16) := rfl
theorem lxiH (d16 : Word) : Statement (.lxiH d16) := rfl
theorem shld (a16 : Word) : Statement (.shld a16) := rfl
theorem lhld (a16 : Word) : Statement (.lhld a16) := rfl
theorem lxiSp (d16 : Word) : Statement (.lxiSp d16) := rfl
theorem sta (a16 : Word) : Statement (.sta a16) := rfl
theorem lda (a16 : Word) : Statement (.lda a16) := rfl
theorem jnz (a16 : Word) : Statement (.jnz a16) := rfl
theorem jmp (a16 : Word) : Statement (.jmp a16) := rfl
theorem cnz (a16 : Word) : Statement (.cnz a16) := rfl
theorem jz (a16 : Word) : Statement (.jz a16) := rfl
theorem jmpCB (a16 : Word) : Statement (.jmpCB a16) := rfl
theorem cz (a16 : Word) : Statement (.cz a16) := rfl
theorem call (a16 : Word) : Statement (.call a16) := rfl
theorem jnc (a16 : Word) : Statement (.jnc a16) := rfl
theorem cnc (a16 : Word) : Statement (.cnc a16) := rfl
theorem jc (a16 : Word) : Statement (.jc a16) := rfl
theorem cc (a16 : Word) : Statement (.cc a16) := rfl
theorem callDD (a16 : Word) : Statement (.callDD a16) := rfl
theorem jpo (a16 : Word) : Statement (.jpo a16) := rfl
theorem cpo (a16 : Word) : Statement (.cpo a16) := rfl
theorem jpe (a16 : Word) : Statement (.jpe a16) := rfl
theorem cpe (a16 : Word) : Statement (.cpe a16) := rfl
theorem callED (a16 : Word) : Statement (.callED a16) := rfl
theorem jp (a16 : Word) : Statement (.jp a16) := rfl
theorem cp (a16 : Word) : Statement (.cp a16) := rfl
theorem jm (a16 : Word) : Statement (.jm a16) := rfl
theorem cm (a16 : Word) : Statement (.cm a16) := rfl
theorem callFD (a16 : Word) : Statement (.callFD a16) := rfl
theorem mviB (d8 : Byte) : Statement (.mviB d8) := rfl
theorem mviC (d8 : Byte) : Statement (.mviC d8) := rfl
theorem mviD (d8 : Byte) : Statement (.mviD d8) := rfl
theorem mviE (d8 : Byte) : Statement (.mviE d8) := rfl
theorem mviH (d8 : Byte) : Statement (.mviH d8) := rfl
theorem mviL (d8 : Byte) : Statement (.mviL d8) := rfl
theorem mviM (d8 : Byte) : Statement (.mviM d8) := rfl
theorem mviA (d8 : Byte) : Statement (.mviA d8) := rfl
theorem adi (d8 : Byte) : Statement (.adi d8) := rfl
theorem aci (d8 : Byte) : Statement (.aci d8) := rfl
theorem outPort (p8 : Byte) : Statement (.outPort p8) := rfl
theorem sui (d8 : Byte) : Statement (.sui d8) := rfl
theorem inPort (p8 : Byte) : Statement (.inPort p8) := rfl
theorem sbi (d8 : Byte) : Statement (.sbi d8) := rfl
theorem ani (d8 : Byte) : Statement (.ani d8) := rfl
theorem xri (d8 : Byte) : Statement (.xri d8) := rfl
theorem ori (d8 : Byte) : Statement (.ori d8) := rfl
theorem cpi (d8 : Byte) : Statement (.cpi d8) := rfl
theorem nop : Statement .nop := rfl
theorem staxB : Statement .staxB := rfl
theorem inxB : Statement .inxB := rfl
theorem inrB : Statement .inrB := rfl
theorem dcrB : Statement .dcrB := rfl
theorem rlc : Statement .rlc := rfl
theorem nop08 : Statement .nop08 := rfl
theorem dadB : Statement .dadB := rfl
theorem ldaxB : Statement .ldaxB := rfl
theorem dcxB : Statement .dcxB := rfl
theorem inrC : Statement .inrC := rfl
theorem dcrC : Statement .dcrC := rfl
theorem rrc : Statement .rrc := rfl
theorem nop10 : Statement .nop10 := rfl
theorem staxD : Statement .staxD := rfl
theorem inxD : Statement .inxD := rfl
theorem inrD : Statement .inrD := rfl
theorem dcrD : Statement .dcrD := rfl
theorem ral : Statement .ral := rfl
theorem nop18 : Statement .nop18 := rfl
theorem dadD : Statement .dadD := rfl
theorem ldaxD : Statement .ldaxD := rfl
theorem dcxD : Statement .dcxD := rfl
theorem inrE : Statement .inrE := rfl
theorem dcrE : Statement .dcrE := rfl
theorem rar : Statement .rar := rfl
theorem nop20 : Statement .nop20 := rfl
theorem inxH : Statement .inxH := rfl
theorem inrH : Statement .inrH := rfl
theorem dcrH : Statement .dcrH := rfl
theorem daa : Statement .daa := rfl
theorem nop28 : Statement .nop28 := rfl
theorem dadH : Statement .dadH := rfl
theorem dcxH : Statement .dcxH := rfl
theorem inrL : Statement .inrL := rfl
theorem dcrL : Statement .dcrL := rfl
theorem cma : Statement .cma := rfl
theorem nop30 : Statement .nop30 := rfl
theorem inxSp : Statement .inxSp := rfl
theorem inrM : Statement .inrM := rfl
theorem dcrM : Statement .dcrM := rfl
theorem stc : Statement .stc := rfl
theorem nop38 : Statement .nop38 := rfl
theorem dadSp : Statement .dadSp := rfl
theorem dcxSp : Statement .dcxSp := rfl
theorem inrA : Statement .inrA := rfl
theorem dcrA : Statement .dcrA := rfl
theorem cmc : Statement .cmc := rfl
theorem movBB : Statement .movBB := rfl
theorem movBC : Statement .movBC := rfl
theorem movBD : Statement .movBD := rfl
theorem movBE : Statement .movBE := rfl
theorem movBH : Statement .movBH := rfl
theorem movBL : Statement .movBL := rfl
theorem movBM : Statement .movBM := rfl
theorem movBA : Statement .movBA := rfl
theorem movCB : Statement .movCB := rfl
theorem movCC : Statement .movCC := rfl
theorem movCD : Statement .movCD := rfl
theorem movCE : Statement .movCE := rfl
theorem movCH : Statement .movCH := rfl
theorem movCL : Statement .movCL := rfl
theorem movCM : Statement .movCM := rfl
theorem movCA : Statement .movCA := rfl
theorem movDB : Statement .movDB := rfl
theorem movDC : Statement .movDC := rfl
theorem movDD : Statement .movDD := rfl
theorem movDE : Statement .movDE := rfl
theorem movDH : Statement .movDH := rfl
theorem movDL : Statement .movDL := rfl
theorem movDM : Statement .movDM := rfl
theorem movDA : Statement .movDA := rfl
theorem movEB : Statement .movEB := rfl
theorem movEC : Statement .movEC := rfl
theorem movED : Statement .movED := rfl
theorem movEE : Statement .movEE := rfl
theorem movEH : Statement .movEH := rfl
theorem movEL : Statement .movEL := rfl
theorem movEM : Statement .movEM := rfl
theorem movEA : Statement .movEA := rfl
theorem movHB : Statement .movHB := rfl
theorem movHC : Statement .movHC := rfl
theorem movHD : Statement .movHD := rfl
theorem movHE : Statement .movHE := rfl
theorem movHH : Statement .movHH := rfl
theorem movHL : Statement .movHL := rfl
theorem movHM : Statement .movHM := rfl
theorem movHA : Statement .movHA := rfl
theorem movLB : Statement .movLB := rfl
theorem movLC : Statement .movLC := rfl
theorem movLD : Statement .movLD := rfl
theorem movLE : Statement .movLE := rfl
theorem movLH : Statement .movLH := rfl
theorem movLL : Statement .movLL := rfl
theorem movLM : Statement .movLM := rfl
theorem movLA : Statement .movLA := rfl
theorem movMB : Statement .movMB := rfl
theorem movMC : Statement .movMC := rfl
theorem movMD : Statement .movMD := rfl
theorem movME : Statement .movME := rfl
theorem movMH : Statement .movMH := rfl
theorem movML : Statement .movML := rfl
theorem hlt : Statement .hlt := rfl
theorem movMA : Statement .movMA := rfl
theorem movAB : Statement .movAB := rfl
theorem movAC : Statement .movAC := rfl
theorem movAD : Statement .movAD := rfl
theorem movAE : Statement .movAE := rfl
theorem movAH : Statement .movAH := rfl
theorem movAL : Statement .movAL := rfl
theorem movAM : Statement .movAM := rfl
theorem movAA : Statement .movAA := rfl
theorem addB : Statement .addB := rfl
theorem addC : Statement .addC := rfl
theorem addD : Statement .addD := rfl
theorem addE : Statement .addE := rfl
theorem addH : Statement .addH := rfl
theorem addL : Statement .addL := rfl
theorem addM : Statement .addM := rfl
theorem addA : Statement .addA := rfl
theorem adcB : Statement .adcB := rfl
theorem adcC : Statement .adcC := rfl
theorem adcD : Statement .adcD := rfl
theorem adcE : Statement .adcE := rfl
theorem adcH : Statement .adcH := rfl
theorem adcL : Statement .adcL := rfl
theorem adcM : Statement .adcM := rfl
theorem adcA : Statement .adcA := rfl
theorem subB : Statement .subB := rfl
theorem subC : Statement .subC := rfl
theorem subD : Statement .subD := rfl
theorem subE : Statement .subE := rfl
theorem subH : Statement .subH := rfl
theorem subL : Statement .subL := rfl
theorem subM : Statement .subM := rfl
theorem subA : Statement .subA := rfl
theorem sbbB : Statement .sbbB := rfl
theorem sbbC : Statement .sbbC := rfl
theorem sbbD : Statement .sbbD := rfl
theorem sbbE : Statement .sbbE := rfl
theorem sbbH : Statement .sbbH := rfl
theorem sbbL : Statement .sbbL := rfl
theorem sbbM : Statement .sbbM := rfl
theorem sbbA : Statement .sbbA := rfl
theorem anaB : Statement .anaB := rfl
theorem anaC : Statement .anaC := rfl
theorem anaD : Statement .anaD := rfl
theorem anaE : Statement .anaE := rfl
theorem anaH : Statement .anaH := rfl
theorem anaL : Statement .anaL := rfl
theorem anaM : Statement .anaM := rfl
theorem anaA : Statement .anaA := rfl
theorem xraB : Statement .xraB := rfl
theorem xraC : Statement .xraC := rfl
theorem xraD : Statement .xraD := rfl
theorem xraE : Statement .xraE := rfl
theorem xraH : Statement .xraH := rfl
theorem xraL : Statement .xraL := rfl
theorem xraM : Statement .xraM := rfl
theorem xraA : Statement .xraA := rfl
theorem oraB : Statement .oraB := rfl
theorem oraC : Statement .oraC := rfl
theorem oraD : Statement .oraD := rfl
theorem oraE : Statement .oraE := rfl
theorem oraH : Statement .oraH := rfl
theorem oraL : Statement .oraL := rfl
theorem oraM : Statement .oraM := rfl
theorem oraA : Statement .oraA := rfl
theorem cmpB : Statement .cmpB := rfl
theorem cmpC : Statement .cmpC := rfl
theorem cmpD : Statement .cmpD := rfl
theorem cmpE : Statement .cmpE := rfl
theorem cmpH : Statement .cmpH := rfl
theorem cmpL : Statement .cmpL := rfl
theorem cmpM : Statement .cmpM := rfl
theorem cmpA : Statement .cmpA := rfl
theorem rnz : Statement .rnz := rfl
theorem popB : Statement .popB := rfl
theorem pushB : Statement .pushB := rfl
theorem rst0 : Statement .rst0 := rfl
theorem rz : Statement .rz := rfl
theorem ret : Statement .ret := rfl
theorem rst1 : Statement .rst1 := rfl
theorem rnc : Statement .rnc := rfl
theorem popD : Statement .popD := rfl
theorem pushD : Statement .pushD := rfl
theorem rst2 : Statement .rst2 := rfl
theorem rc : Statement .rc := rfl
theorem retD9 : Statement .retD9 := rfl
theorem rst3 : Statement .rst3 := rfl
theorem rpo : Statement .rpo := rfl
theorem popH : Statement .popH := rfl
theorem xthl : Statement .xthl := rfl
theorem pushH : Statement .pushH := rfl
theorem rst4 : Statement .rst4 := rfl
theorem rpe : Statement .rpe := rfl
theorem pchl : Statement .pchl := rfl
theorem xchg : Statement .xchg := rfl
theorem rst5 : Statement .rst5 := rfl
theorem rp : Statement .rp := rfl
theorem popPsw : Statement .popPsw := rfl
theorem di : Statement .di := rfl
theorem pushPsw : Statement .pushPsw := rfl
theorem rst6 : Statement .rst6 := rfl
theorem rm : Statement .rm := rfl
theorem sphl : Statement .sphl := rfl
theorem ei : Statement .ei := rfl
theorem rst7 : Statement .rst7 := rfl

end Sys2Proof.Laws.LengthOfOpcode
end

