-- ==== Sys2Proof/Tests/Slice0.lean ====
section
/-! SUPPORT. Tests. Expected results come from the spec: the encodings of R102 and R108, and the worked examples and
vectors of 95_test_vectors.md (named S, V-…) and of the rules; none is the model's own answer pasted back. At the end, for
every statement with hypotheses, a concrete state and operands that meet them, clause by clause. -/

namespace Sys2Proof.Tests

open Sys2Proof.Machine Sys2Proof.Claims

/-! ### Helpers -/

/-- Configuration T of 95_test_vectors.md. -/
def cfgT : MachineConfig :=
  { MachineConfig.atReset with romSize := 0x1000, ramSize := 0x3000, ramMirrored := true, unimplemented := [] }

/-- The start state of the vectors: the reset state in configuration T with PC = 0x0100. -/
def start : State := { State.reset with cfg := cfgT, pc := 0x0100 }

/-- Bytes placed as load() places them. -/
def holding (i : Nat) (bytes : List Byte) (s : State) : State :=
  { s with store := writeBytes s.cfg.sentinel s.store i bytes }

/-- Whether an answer is a next state with a property. -/
def nextIs (o : Answer) (p : State → Bool) : Bool :=
  match o with
  | .next t => p t
  | _ => false

/-- Whether one step of `bytes`, placed at PC in `s`, gives a next state with a property. -/
def runs (bytes : List Byte) (s : State) (p : State → Bool) : Bool := nextIs (step (holding s.pc.toNat bytes s)) p

/-- Whether one step of `bytes` ends in a fault with this information, the state it leaves having a property. -/
def faults (bytes : List Byte) (s : State) (i : FaultInfo) (p : State → Bool) : Bool :=
  match step (holding s.pc.toNat bytes s) with
  | .fault f => decide (faultInfo f = i) && decide ((faultState f).run = .faulted i) && p (faultState f)
  | _ => false

/-- The byte stored at an index. -/
def at_ (s : State) (i : Nat) : Byte := readByte s.cfg.sentinel s.store i

/-- The flags as a list of the bits Z, S, P, CY, AC. -/
def bits (s : State) : List Nat :=
  [s.flags.z.toNat, s.flags.s.toNat, s.flags.p.toNat, s.flags.cy.toNat, s.flags.ac.toNat]

/-- Flags with CY set and no other. -/
def carry : Flags := { z := false, s := false, p := false, cy := true, ac := false }

/-- Whether the decoder reads these bytes as this instruction, with nothing left over. -/
def reads (bytes : List Byte) (i : Instr) : Bool :=
  match decode bytes with
  | .ok (j, rest) => decide (j = i) && rest.isEmpty
  | .error _ => false

def decodeAll (rows : List (List Byte × Instr)) : Bool := rows.all fun row => reads row.1 row.2

/-! ### Well-formedness: each check refuses an ill-formed term -/

theorem test_wf_config_T : cfgT.valid = true := by decide
theorem test_wf_refuses_empty_memory : { cfgT with romSize := 0, ramSize := 0, ramMirrored := false }.sizeOk = false := by
  decide
theorem test_wf_refuses_memory_beyond_64K : { cfgT with ramSize := 0xF001 }.sizeOk = false := by decide
theorem test_wf_refuses_mirror_without_ram : { cfgT with ramSize := 0 }.mirrorOk = false := by decide
theorem test_wf_refuses_zero_sentinel : { cfgT with sentinel := 0 }.sentinelOk = false := by decide
theorem test_wf_refuses_missing_mvi_a : { cfgT with unimplemented := [0x3E] }.implOk = false := by decide
theorem test_wf_refuses_vector_zero : { cfgT with diagVector := 0 }.vectorOk = false := by decide
theorem test_wf_refuses_unsorted_list : { cfgT with unimplemented := [0x76, 0x27] }.listsOk = false := by decide
theorem test_wf_refuses_interrupt_vectors : (vectorInRange 8, vectorInRange (-1), vectorInRange 7) = (false, false, true) := by
  decide
theorem test_wf_every_check_counts :
    ([{ cfgT with romSize := 0, ramSize := 0, ramMirrored := false }, { cfgT with ramSize := 0 },
      { cfgT with sentinel := 0 }, { cfgT with unimplemented := [0x3E] }, { cfgT with diagVector := 0 },
      { cfgT with unimplemented := [0x76, 0x27] }].all fun g => !g.valid) = true := by decide

/-! ### Decoding: every opcode byte, written bit by bit from R102 and R108 -/

theorem test_decode_line_0x :
  decodeAll [([0b00000000], .nop), ([0b00000001, 0x34, 0x12], .lxiB 0x1234), ([0b00000010], .staxB),
    ([0b00000011], .inxB), ([0b00000100], .inrB), ([0b00000101], .dcrB), ([0b00000110, 0x5A], .mviB 0x5A),
    ([0b00000111], .rlc), ([0b00001000], .nop08), ([0b00001001], .dadB), ([0b00001010], .ldaxB),
    ([0b00001011], .dcxB), ([0b00001100], .inrC), ([0b00001101], .dcrC), ([0b00001110, 0x5A], .mviC 0x5A),
    ([0b00001111], .rrc)] = true := by decide

theorem test_decode_line_1x :
  decodeAll [([0b00010000], .nop10), ([0b00010001, 0x34, 0x12], .lxiD 0x1234), ([0b00010010], .staxD),
    ([0b00010011], .inxD), ([0b00010100], .inrD), ([0b00010101], .dcrD), ([0b00010110, 0x5A], .mviD 0x5A),
    ([0b00010111], .ral), ([0b00011000], .nop18), ([0b00011001], .dadD), ([0b00011010], .ldaxD),
    ([0b00011011], .dcxD), ([0b00011100], .inrE), ([0b00011101], .dcrE), ([0b00011110, 0x5A], .mviE 0x5A),
    ([0b00011111], .rar)] = true := by decide

theorem test_decode_line_2x :
  decodeAll [([0b00100000], .nop20), ([0b00100001, 0x34, 0x12], .lxiH 0x1234),
    ([0b00100010, 0x34, 0x12], .shld 0x1234), ([0b00100011], .inxH), ([0b00100100], .inrH), ([0b00100101], .dcrH),
    ([0b00100110, 0x5A], .mviH 0x5A), ([0b00100111], .daa), ([0b00101000], .nop28), ([0b00101001], .dadH),
    ([0b00101010, 0x34, 0x12], .lhld 0x1234), ([0b00101011], .dcxH), ([0b00101100], .inrL), ([0b00101101], .dcrL),
    ([0b00101110, 0x5A], .mviL 0x5A), ([0b00101111], .cma)] = true := by decide

theorem test_decode_line_3x :
  decodeAll [([0b00110000], .nop30), ([0b00110001, 0x34, 0x12], .lxiSp 0x1234),
    ([0b00110010, 0x34, 0x12], .sta 0x1234), ([0b00110011], .inxSp), ([0b00110100], .inrM), ([0b00110101], .dcrM),
    ([0b00110110, 0x5A], .mviM 0x5A), ([0b00110111], .stc), ([0b00111000], .nop38), ([0b00111001], .dadSp),
    ([0b00111010, 0x34, 0x12], .lda 0x1234), ([0b00111011], .dcxSp), ([0b00111100], .inrA), ([0b00111101], .dcrA),
    ([0b00111110, 0x5A], .mviA 0x5A), ([0b00111111], .cmc)] = true := by decide

theorem test_decode_line_4x :
  decodeAll [([0b01000000], .movBB), ([0b01000001], .movBC), ([0b01000010], .movBD), ([0b01000011], .movBE),
    ([0b01000100], .movBH), ([0b01000101], .movBL), ([0b01000110], .movBM), ([0b01000111], .movBA),
    ([0b01001000], .movCB), ([0b01001001], .movCC), ([0b01001010], .movCD), ([0b01001011], .movCE),
    ([0b01001100], .movCH), ([0b01001101], .movCL), ([0b01001110], .movCM),
    ([0b01001111], .movCA)] = true := by decide

theorem test_decode_line_5x :
  decodeAll [([0b01010000], .movDB), ([0b01010001], .movDC), ([0b01010010], .movDD), ([0b01010011], .movDE),
    ([0b01010100], .movDH), ([0b01010101], .movDL), ([0b01010110], .movDM), ([0b01010111], .movDA),
    ([0b01011000], .movEB), ([0b01011001], .movEC), ([0b01011010], .movED), ([0b01011011], .movEE),
    ([0b01011100], .movEH), ([0b01011101], .movEL), ([0b01011110], .movEM),
    ([0b01011111], .movEA)] = true := by decide

theorem test_decode_line_6x :
  decodeAll [([0b01100000], .movHB), ([0b01100001], .movHC), ([0b01100010], .movHD), ([0b01100011], .movHE),
    ([0b01100100], .movHH), ([0b01100101], .movHL), ([0b01100110], .movHM), ([0b01100111], .movHA),
    ([0b01101000], .movLB), ([0b01101001], .movLC), ([0b01101010], .movLD), ([0b01101011], .movLE),
    ([0b01101100], .movLH), ([0b01101101], .movLL), ([0b01101110], .movLM),
    ([0b01101111], .movLA)] = true := by decide

theorem test_decode_line_7x :
  decodeAll [([0b01110000], .movMB), ([0b01110001], .movMC), ([0b01110010], .movMD), ([0b01110011], .movME),
    ([0b01110100], .movMH), ([0b01110101], .movML), ([0b01110110], .hlt), ([0b01110111], .movMA),
    ([0b01111000], .movAB), ([0b01111001], .movAC), ([0b01111010], .movAD), ([0b01111011], .movAE),
    ([0b01111100], .movAH), ([0b01111101], .movAL), ([0b01111110], .movAM),
    ([0b01111111], .movAA)] = true := by decide

theorem test_decode_line_8x :
  decodeAll [([0b10000000], .addB), ([0b10000001], .addC), ([0b10000010], .addD), ([0b10000011], .addE),
    ([0b10000100], .addH), ([0b10000101], .addL), ([0b10000110], .addM), ([0b10000111], .addA), ([0b10001000], .adcB),
    ([0b10001001], .adcC), ([0b10001010], .adcD), ([0b10001011], .adcE), ([0b10001100], .adcH), ([0b10001101], .adcL),
    ([0b10001110], .adcM), ([0b10001111], .adcA)] = true := by decide

theorem test_decode_line_9x :
  decodeAll [([0b10010000], .subB), ([0b10010001], .subC), ([0b10010010], .subD), ([0b10010011], .subE),
    ([0b10010100], .subH), ([0b10010101], .subL), ([0b10010110], .subM), ([0b10010111], .subA), ([0b10011000], .sbbB),
    ([0b10011001], .sbbC), ([0b10011010], .sbbD), ([0b10011011], .sbbE), ([0b10011100], .sbbH), ([0b10011101], .sbbL),
    ([0b10011110], .sbbM), ([0b10011111], .sbbA)] = true := by decide

theorem test_decode_line_Ax :
  decodeAll [([0b10100000], .anaB), ([0b10100001], .anaC), ([0b10100010], .anaD), ([0b10100011], .anaE),
    ([0b10100100], .anaH), ([0b10100101], .anaL), ([0b10100110], .anaM), ([0b10100111], .anaA), ([0b10101000], .xraB),
    ([0b10101001], .xraC), ([0b10101010], .xraD), ([0b10101011], .xraE), ([0b10101100], .xraH), ([0b10101101], .xraL),
    ([0b10101110], .xraM), ([0b10101111], .xraA)] = true := by decide

theorem test_decode_line_Bx :
  decodeAll [([0b10110000], .oraB), ([0b10110001], .oraC), ([0b10110010], .oraD), ([0b10110011], .oraE),
    ([0b10110100], .oraH), ([0b10110101], .oraL), ([0b10110110], .oraM), ([0b10110111], .oraA), ([0b10111000], .cmpB),
    ([0b10111001], .cmpC), ([0b10111010], .cmpD), ([0b10111011], .cmpE), ([0b10111100], .cmpH), ([0b10111101], .cmpL),
    ([0b10111110], .cmpM), ([0b10111111], .cmpA)] = true := by decide

theorem test_decode_line_Cx :
  decodeAll [([0b11000000], .rnz), ([0b11000001], .popB), ([0b11000010, 0x34, 0x12], .jnz 0x1234),
    ([0b11000011, 0x34, 0x12], .jmp 0x1234), ([0b11000100, 0x34, 0x12], .cnz 0x1234), ([0b11000101], .pushB),
    ([0b11000110, 0x5A], .adi 0x5A), ([0b11000111], .rst0), ([0b11001000], .rz), ([0b11001001], .ret),
    ([0b11001010, 0x34, 0x12], .jz 0x1234), ([0b11001011, 0x34, 0x12], .jmpCB 0x1234),
    ([0b11001100, 0x34, 0x12], .cz 0x1234), ([0b11001101, 0x34, 0x12], .call 0x1234), ([0b11001110, 0x5A], .aci 0x5A),
    ([0b11001111], .rst1)] = true := by decide

theorem test_decode_line_Dx :
  decodeAll [([0b11010000], .rnc), ([0b11010001], .popD), ([0b11010010, 0x34, 0x12], .jnc 0x1234),
    ([0b11010011, 0x5A], .outPort 0x5A), ([0b11010100, 0x34, 0x12], .cnc 0x1234), ([0b11010101], .pushD),
    ([0b11010110, 0x5A], .sui 0x5A), ([0b11010111], .rst2), ([0b11011000], .rc), ([0b11011001], .retD9),
    ([0b11011010, 0x34, 0x12], .jc 0x1234), ([0b11011011, 0x5A], .inPort 0x5A),
    ([0b11011100, 0x34, 0x12], .cc 0x1234), ([0b11011101, 0x34, 0x12], .callDD 0x1234),
    ([0b11011110, 0x5A], .sbi 0x5A), ([0b11011111], .rst3)] = true := by decide

theorem test_decode_line_Ex :
  decodeAll [([0b11100000], .rpo), ([0b11100001], .popH), ([0b11100010, 0x34, 0x12], .jpo 0x1234),
    ([0b11100011], .xthl), ([0b11100100, 0x34, 0x12], .cpo 0x1234), ([0b11100101], .pushH),
    ([0b11100110, 0x5A], .ani 0x5A), ([0b11100111], .rst4), ([0b11101000], .rpe), ([0b11101001], .pchl),
    ([0b11101010, 0x34, 0x12], .jpe 0x1234), ([0b11101011], .xchg), ([0b11101100, 0x34, 0x12], .cpe 0x1234),
    ([0b11101101, 0x34, 0x12], .callED 0x1234), ([0b11101110, 0x5A], .xri 0x5A),
    ([0b11101111], .rst5)] = true := by decide

theorem test_decode_line_Fx :
  decodeAll [([0b11110000], .rp), ([0b11110001], .popPsw), ([0b11110010, 0x34, 0x12], .jp 0x1234),
    ([0b11110011], .di), ([0b11110100, 0x34, 0x12], .cp 0x1234), ([0b11110101], .pushPsw),
    ([0b11110110, 0x5A], .ori 0x5A), ([0b11110111], .rst6), ([0b11111000], .rm), ([0b11111001], .sphl),
    ([0b11111010, 0x34, 0x12], .jm 0x1234), ([0b11111011], .ei), ([0b11111100, 0x34, 0x12], .cm 0x1234),
    ([0b11111101, 0x34, 0x12], .callFD 0x1234), ([0b11111110, 0x5A], .cpi 0x5A),
    ([0b11111111], .rst7)] = true := by decide

theorem test_decode_refuses_nothing : decode [] = .error .noOpcode := rfl
theorem test_decode_refuses_truncated_mvi : decode [0x3E] = .error (.operandMissing 0x3E) := rfl
theorem test_decode_refuses_truncated_jmp : decode [0xC3, 0x00] = .error (.operandMissing 0xC3) := rfl
theorem test_decodeTableWord_numbers_bytes_up : decodeTableWord 24 0x1234C3 = some (.jmp 0x1234) := rfl
theorem test_decodeTableWord_short_row_has_zero_operands : decodeTableWord 8 0xC3 = some (.jmp 0) := rfl

/-! ### Data transfer -/

theorem test_S1_mvi_A : runs [0x3E, 0x05] { start with pc := 0 } (fun t => t.a == 5 && t.pc == 2) = true := by decide
theorem test_mov_C_B : runs [0x48] { start with b := 0x12 } (fun t => t.c == 0x12 && t.b == 0x12 && t.pc == 0x0101) = true := by
  decide
theorem test_DT2_mov_H_M_reads_old_HL : runs [0x66] (holding 0x2010 [0x30] { start with h := 0x20, l := 0x10 })
    (fun t => t.h == 0x30 && t.l == 0x10) = true := by decide
theorem test_DT3_mov_M_H : runs [0x74] { start with h := 0x20, l := 0x10 } (fun t => at_ t 0x2010 == 0x20) = true := by
  decide
theorem test_DT4_mov_M_A_in_rom : faults [0x77] { start with h := 0x08, a := 0x11 } (.romWriteProtected 0x0800 0x0800 0x11)
    (fun t => t.pc == 0x0100) = true := by decide
theorem test_DT6_mvi_M_folds : runs [0x36, 0x00] { start with h := 0x70, l := 0x10 }
    (fun t => at_ t 0x1010 == 0 && t.pc == 0x0102) = true := by decide
theorem test_DT7_lxi_H : runs [0x21, 0x34, 0x12] start (fun t => t.h == 0x12 && t.l == 0x34 && t.pc == 0x0103) = true := by
  decide
theorem test_DT8_lda_own_opcode : runs [0x3A, 0x00, 0x01] start (fun t => t.a == 0x3A) = true := by decide
theorem test_DT9_lhld_wraps : runs [0x2A, 0xFF, 0xFF] (holding 0 [0x12] (holding 0x3FFF [0x77] start))
    (fun t => t.h == 0x12 && t.l == 0x77) = true := by decide
theorem test_DT11_shld_partial : faults [0x22, 0xFF, 0xFF] { start with h := 0xBE, l := 0xEF }
    (.romWriteProtected 0x0000 0x0000 0xBE) (fun t => at_ t 0x3FFF == 0xEF && t.pc == 0x0100) = true := by decide
theorem test_DT12_ldax_B : runs [0x0A] { start with b := 0x01, c := 0x00 } (fun t => t.a == 0x0A) = true := by decide
theorem test_DT13_stax_D_folds : runs [0x12] { start with d := 0x40, e := 0, a := 0x5A } (fun t => at_ t 0x1000 == 0x5A) = true := by
  decide
theorem test_DT15_sta_out_of_bounds : faults [0x32, 0x00, 0x40] { start with a := 0x99, cfg := { cfgT with ramMirrored := false } }
    (.memWriteOutOfBounds 0x4000 0x4000 0x99) (fun t => t.pc == 0x0100) = true := by decide
theorem test_xchg : runs [0xEB] { start with h := 0x11, l := 0x12, d := 0x21, e := 0x22 }
    (fun t => [t.h, t.l, t.d, t.e] == [0x21, 0x22, 0x11, 0x12]) = true := by decide

/-! ### Arithmetic -/

theorem test_add_B : runs [0x80] { start with a := 0x3A, b := 0xC6 } (fun t => t.a == 0 && bits t == [1, 0, 1, 1, 0]) = true := by
  decide
theorem test_AR2_add_M : runs [0x86] (holding 0x2000 [0xFF] { start with a := 1, h := 0x20 })
    (fun t => t.a == 0 && bits t == [1, 0, 1, 1, 0]) = true := by decide
theorem test_AR3_adc_A : runs [0x8F] { start with a := 0xFF, flags := carry }
    (fun t => t.a == 0xFF && bits t == [0, 1, 1, 1, 0]) = true := by decide
theorem test_AR6_sub_borrow : runs [0x90] { start with b := 1 } (fun t => t.a == 0xFF && bits t == [0, 1, 1, 1, 0]) = true := by
  decide
theorem test_AR8_sbb_intermediate_FF00 : runs [0x98] { start with b := 0xFF, flags := carry }
    (fun t => t.a == 0 && bits t == [1, 0, 1, 1, 0]) = true := by decide
theorem test_S5_adi : runs [0xC6, 0x01] { start with a := 0x0F }
    (fun t => t.a == 0x10 && bits t == [0, 0, 0, 0, 0] && t.pc == 0x0102) = true := by decide
theorem test_aci : runs [0xCE, 0x42] { start with a := 0x14, flags := carry }
    (fun t => t.a == 0x57 && bits t == [0, 0, 0, 0, 0]) = true := by decide
theorem test_AR10_sui_clears_carry : runs [0xD6, 0x00] { start with flags := carry } (fun t => bits t == [1, 0, 1, 0, 0]) = true := by
  decide
theorem test_sbi : runs [0xDE, 0x01] { start with flags := carry } (fun t => t.a == 0xFE && bits t == [0, 1, 0, 1, 0]) = true := by
  decide
theorem test_AR12_inr_keeps_carry : runs [0x3C] { start with a := 0xFF, flags := carry }
    (fun t => t.a == 0 && bits t == [1, 0, 1, 1, 0]) = true := by decide
theorem test_AR14_dcr_wraps : runs [0x15] start (fun t => t.d == 0xFF && bits t == [0, 1, 1, 0, 0]) = true := by decide
theorem test_AR15_inr_M_in_rom : faults [0x34] (holding 0x0800 [0x41] { start with h := 0x08 })
    (.romWriteProtected 0x0800 0x0800 0x42) (fun t => at_ t 0x0800 == 0x41 && bits t == [0, 0, 0, 0, 0]) = true := by decide
theorem test_AR16_dcr_M : runs [0x35] (holding 0x2000 [0x01] { start with h := 0x20 })
    (fun t => at_ t 0x2000 == 0 && bits t == [1, 0, 1, 0, 0]) = true := by decide
theorem test_AR18_inx_B : runs [0x03] { start with c := 0xFF } (fun t => t.b == 1 && t.c == 0) = true := by decide
theorem test_AR19_dcx_D : runs [0x1B] start (fun t => t.d == 0xFF && t.e == 0xFF && bits t == [0, 0, 0, 0, 0]) = true := by
  decide
theorem test_dad_B : runs [0x09] { start with h := 0xA1, l := 0x7B, b := 0x33, c := 0x9F }
    (fun t => t.h == 0xD5 && t.l == 0x1A && bits t == [0, 0, 0, 0, 0]) = true := by decide
theorem test_AR21_dad_SP : runs [0x39] { start with h := 0xFF, l := 0xFF, sp := 1 }
    (fun t => t.h == 0 && t.l == 0 && bits t == [0, 0, 0, 1, 0] && t.sp == 1) = true := by decide
theorem test_daa : runs [0x27] { start with a := 0x9B } (fun t => t.a == 1 && bits t == [0, 0, 0, 1, 0]) = true := by decide
theorem test_AR24_daa_reads_stored_AC : runs [0x27] { start with a := 0x11, flags := { carry with cy := false, ac := true } }
    (fun t => t.a == 0x17 && bits t == [0, 0, 1, 0, 1]) = true := by decide

/-! ### Logical operations, rotates, carry -/

theorem test_ana_C : runs [0xA1] { start with a := 0xFC, c := 0x0F, flags := carry }
    (fun t => t.a == 0x0C && bits t == [0, 0, 1, 0, 0]) = true := by decide
theorem test_xra_B : runs [0xA8] { start with a := 0x5C, b := 0x78 } (fun t => t.a == 0x24 && bits t == [0, 0, 1, 0, 0]) = true := by
  decide
theorem test_ora_B : runs [0xB0] { start with a := 0x33, b := 0x0F } (fun t => t.a == 0x3F && bits t == [0, 0, 1, 0, 0]) = true := by
  decide
theorem test_cmp_E : runs [0xBB] { start with a := 2, e := 5 } (fun t => t.a == 2 && bits t == [0, 1, 0, 1, 0]) = true := by decide
theorem test_ani : runs [0xE6, 0x0F] { start with a := 0x3A } (fun t => t.a == 0x0A && bits t == [0, 0, 1, 0, 0]) = true := by
  decide
theorem test_xri : runs [0xEE, 0x81] { start with a := 0x3B } (fun t => t.a == 0xBA && bits t == [0, 1, 0, 0, 0]) = true := by
  decide
theorem test_ori : runs [0xF6, 0x0F] { start with a := 0xB5 } (fun t => t.a == 0xBF && bits t == [0, 1, 0, 0, 0]) = true := by
  decide
theorem test_cpi : runs [0xFE, 0x40] { start with a := 0x4A } (fun t => t.a == 0x4A && bits t == [0, 0, 1, 0, 0]) = true := by
  decide
theorem test_rlc : runs [0x07] { start with a := 0xF2 } (fun t => t.a == 0xE5 && bits t == [0, 0, 0, 1, 0]) = true := by decide
theorem test_rrc : runs [0x0F] { start with a := 0xF2 } (fun t => t.a == 0x79 && bits t == [0, 0, 0, 0, 0]) = true := by decide
theorem test_LO14_ral : runs [0x17] { start with a := 0x80 } (fun t => t.a == 0 && bits t == [0, 0, 0, 1, 0]) = true := by decide
theorem test_LO16_rar : runs [0x1F] { start with flags := carry } (fun t => t.a == 0x80 && bits t == [0, 0, 0, 0, 0]) = true := by
  decide
theorem test_LO17_cma : runs [0x2F] start (fun t => t.a == 0xFF && bits t == [0, 0, 0, 0, 0]) = true := by decide
theorem test_LO18_cmc : runs [0x3F] start (fun t => bits t == [0, 0, 0, 1, 0]) = true := by decide
theorem test_LO19_stc : runs [0x37] { start with flags := carry } (fun t => bits t == [0, 0, 0, 1, 0]) = true := by decide

/-! ### Branch, call, return, restart, diagnostic hook -/

theorem test_S3_jmp : runs [0xC3, 0x00, 0x10] { start with pc := 0 } (fun t => t.pc == 0x1000) = true := by decide
theorem test_BR3_jnz_taken : runs [0xC2, 0x00, 0x30] start (fun t => t.pc == 0x3000) = true := by decide
theorem test_BR8_jnc_not_taken : runs [0xD2, 0x00, 0x30] { start with flags := carry } (fun t => t.pc == 0x0103) = true := by
  decide
theorem test_BR12_jpo_not_taken : runs [0xE2, 0x00, 0x30] { start with flags := { carry with p := true } }
    (fun t => t.pc == 0x0103) = true := by decide
theorem test_BR18_jm_not_taken : runs [0xFA, 0x00, 0x30] start (fun t => t.pc == 0x0103) = true := by decide
theorem test_S4_call : runs [0xCD, 0x00, 0x10] { start with pc := 0, sp := 0x2000 }
    (fun t => t.pc == 0x1000 && t.sp == 0x1FFE && at_ t 0x1FFE == 3 && at_ t 0x1FFF == 0) = true := by decide
theorem test_S4_SI_call_into_rom : faults [0xCD, 0x00, 0x10]
    { start with pc := 0, sp := 0x2000, cfg := { cfgT with romSize := 0x2000, ramSize := 0x2000 } }
    (.romWriteProtected 0x1FFF 0x1FFF 0x00) (fun t => t.pc == 0 && t.sp == 0x2000) = true := by decide
theorem test_cc_taken : runs [0xDC, 0x00, 0x03] { start with pc := 0x0200, sp := 0x2400, flags := carry }
    (fun t => t.pc == 0x0300 && t.sp == 0x23FE && at_ t 0x23FF == 2 && at_ t 0x23FE == 3) = true := by decide
theorem test_BR22_cnz_not_taken : runs [0xC4, 0x00, 0x30] { start with sp := 0x2400, flags := { carry with z := true } }
    (fun t => t.pc == 0x0103 && t.sp == 0x2400) = true := by decide
theorem test_BR23_ret_wraps : runs [0xC9] (holding 0 [0x12] (holding 0x3FFF [0x34] { start with sp := 0xFFFF }))
    (fun t => t.pc == 0x1234 && t.sp == 0x0001) = true := by decide
theorem test_BR24_rc_taken : runs [0xD8] (holding 0x23FE [0x00, 0x02] { start with sp := 0x23FE, flags := carry })
    (fun t => t.pc == 0x0200 && t.sp == 0x2400) = true := by decide
theorem test_BR25_rc_not_taken : runs [0xD8] { start with sp := 0x23FE } (fun t => t.pc == 0x0101 && t.sp == 0x23FE) = true := by
  decide
theorem test_BR27_rst_7 : runs [0xFF] { start with sp := 0x2400 }
    (fun t => t.pc == 0x0038 && t.sp == 0x23FE && at_ t 0x23FE == 1 && at_ t 0x23FF == 1) = true := by decide
theorem test_pchl : runs [0xE9] { start with h := 0x41, l := 0x3E } (fun t => t.pc == 0x413E) = true := by decide

/-- The hook on, in configuration T. -/
def hooked : State := { start with sp := 0x2400, cfg := { cfgT with diagEnabled := true } }

theorem test_DG1_console : runs [0xCD, 0x05, 0x00] (holding 0x2000 [0x4F, 0x4B, 0x24] { hooked with c := 9, d := 0x20 })
    (fun t => t.trace == [.console 0x4B, .console 0x4F] && t.pc == 0x0103 && t.sp == 0x2400) = true := by decide
theorem test_DG2_trace_line : runs [0xCD, 0x05, 0x00] { hooked with c := 2 } (fun t => t.trace == [.consoleTrace 2]) = true := by
  decide
theorem test_DG3_exit : runs [0xCD, 0x00, 0x00] hooked (fun t => t.run == .exited && t.pc == 0x0100) = true := by decide
theorem test_DG4_cc_has_no_hook : runs [0xDC, 0x05, 0x00] { hooked with flags := carry }
    (fun t => t.pc == 0x0005 && t.sp == 0x23FE && at_ t 0x23FE == 3) = true := by decide

/-! ### Stack -/

theorem test_push_B : runs [0xC5] { start with b := 0x8F, c := 0x9D, sp := 0x3A2C }
    (fun t => t.sp == 0x3A2A && at_ t 0x3A2B == 0x8F && at_ t 0x3A2A == 0x9D) = true := by decide
theorem test_ST3_push_partial : faults [0xC5] { start with b := 0xAA, c := 0xBB, sp := 0x1001 }
    (.romWriteProtected 0x0FFF 0x0FFF 0xBB) (fun t => at_ t 0x1000 == 0xAA && t.sp == 0x1001) = true := by decide
theorem test_push_psw : runs [0xF5] { start with a := 0x47, flags := { carry with z := true }, sp := 0x2400 }
    (fun t => at_ t 0x23FF == 0x47 && at_ t 0x23FE == 0x09) = true := by decide
theorem test_pop_H : runs [0xE1] (holding 0x3A2A [0x9D, 0x8F] { start with sp := 0x3A2A })
    (fun t => t.h == 0x8F && t.l == 0x9D && t.sp == 0x3A2C) = true := by decide
theorem test_ST5_pop_psw_ignores_bits_7_5 : runs [0xF1] (holding 0x2400 [0xE0, 0x12] { start with sp := 0x2400 })
    (fun t => t.a == 0x12 && bits t == [0, 0, 0, 0, 0]) = true := by decide
theorem test_pop_psw_all_flags : runs [0xF1] (holding 0x2C00 [0xFF, 0x80] { start with sp := 0x2C00 })
    (fun t => t.a == 0x80 && bits t == [1, 1, 1, 1, 1]) = true := by decide
theorem test_xthl : runs [0xE3] (holding 0x10AD [0xF0, 0x0D] { start with sp := 0x10AD, h := 0x0B, l := 0x3C })
    (fun t => t.h == 0x0D && t.l == 0xF0 && at_ t 0x10AD == 0x3C && at_ t 0x10AE == 0x0B && t.sp == 0x10AD) = true := by
  decide
theorem test_sphl : runs [0xF9] { start with h := 0x50, l := 0x6C } (fun t => t.sp == 0x506C) = true := by decide

/-! ### I/O, control, aliases, fallback -/

theorem test_IO2_in : runs [0xDB, 0xFF] { start with cbIn := true, inAnswers := [0xF0] }
    (fun t => t.a == 0xF0 && t.trace == [.ioIn 0xFF 0xF0] && t.inAnswers == []) = true := by decide
theorem test_IO4_out : runs [0xD3, 0x03] { start with a := 0x77, cbOut := true } (fun t => t.trace == [.ioOut 0x03 0x77]) = true := by
  decide
theorem test_IO3_out_without_callback : runs [0xD3, 0x03] { start with a := 0x77 } (fun t => t.trace == [] && t.pc == 0x0102) = true := by
  decide
theorem test_IO5_ei : runs [0xFB] start (fun t => t.ie) = true := by decide
theorem test_IO6_di : runs [0xF3] { start with ie := true } (fun t => t.ie && t.pc == 0x0101) = true := by decide
theorem test_IO7_hlt_refused : step (holding 0x0100 [0x76] start) =
    .refused (.haltUnmodelled 0x0100
      { holding 0x0100 [0x76] start with nsteps := 1, run := .refused (.haltUnmodelled 0x0100) }) := rfl
theorem test_IO8_hlt_falls_back : runs [0x76] { start with cfg := { cfgT with unimplemented := [0x76] } }
    (fun t => t.pc == 0x0101 && t.trace == [.unimplemented 0x0100 0x76]) = true := by decide
theorem test_IO10_alias_nop : runs [0x38] start (fun t => t.pc == 0x0101) = true := by decide
theorem test_IO11_alias_jmp : runs [0xCB, 0x00, 0x30] start (fun t => t.pc == 0x3000) = true := by decide
theorem test_IO12_alias_ret : runs [0xD9] (holding 0x23FE [0x10, 0x00] { start with sp := 0x23FE })
    (fun t => t.pc == 0x0010 && t.sp == 0x2400) = true := by decide
theorem test_IO13_alias_call : runs [0xFD, 0x00, 0x30] { start with sp := 0x2400 }
    (fun t => t.pc == 0x3000 && at_ t 0x23FE == 3 && at_ t 0x23FF == 1) = true := by decide
theorem test_IO14_fallback_length : runs [0xCD, 0x00, 0x30] { start with sp := 0x2400, cfg := { cfgT with unimplemented := [0xCD] } }
    (fun t => t.pc == 0x0103 && t.sp == 0x2400 && t.trace == [.unimplemented 0x0100 0xCD]) = true := by decide
theorem test_IO15_fallback_length_one : runs [0xC6, 0x01]
    { start with a := 0x0F, cfg := { cfgT with unimplemented := [0xC6], fallbackLens := [(0xC6, .one)] } }
    (fun t => t.pc == 0x0101 && t.a == 0x0F) = true := by decide

/-! ### Memory map, breakpoints, interrupts, host calls -/

theorem test_ME1_fetch_out_of_bounds : faults [] { start with pc := 0x4000, cfg := { cfgT with ramMirrored := false } }
    (.memReadOutOfBounds 0x4000 0x4000) (fun t => t.pc == 0x4000) = true := by decide
theorem test_ME2_operand_fetch_out_of_bounds :
    faults [0x3E] { start with pc := 0x3FFF, cfg := { cfgT with ramMirrored := false } }
    (.memReadOutOfBounds 0x4000 0x4000) (fun t => t.pc == 0x3FFF) = true := by decide
theorem test_ME4_write_breakpoint_on_issued_address :
    runs [0x77] { start with h := 0x70, a := 0x66, bpWrite := [0x7000], cbBkpt := true }
    (fun t => at_ t 0x1000 == 0x66 && t.trace == [.memWrite 0x7000 0x66, .breakpoint .memoryWrite 0x7000 0x66]) = true := by decide
theorem test_ME6_notification_before_fault :
    faults [0x77] { start with h := 0x02, a := 0x66, bpWrite := [0x0200], cbBkpt := true }
    (.romWriteProtected 0x0200 0x0200 0x66) (fun t => t.trace == [.breakpoint .memoryWrite 0x0200 0x66]) = true := by decide
theorem test_ME7_writeable_rom : runs [0x77] { start with h := 0x02, a := 0x66, cfg := { cfgT with romWriteable := true } }
    (fun t => at_ t 0x0200 == 0x66) = true := by decide
theorem test_ME8_opcode_breakpoint : runs [0xC3, 0x00, 0x30] { start with bpOpcode := [0x3000], cbBkpt := true }
    (fun t => t.trace.length == 1 && t.pc == 0x3000) = true := by decide
theorem test_callback_read_faults_before_store :
    faults [0x77] { start with
      h := 0x20, a := 0x66, bpWrite := [0x2000], cbBkpt := true, bpReads := [[0x2000, 0x4000], [0x0000]]
      cfg := { cfgT with ramMirrored := false } }
    (.memReadOutOfBounds 0x4000 0x4000) (fun t => at_ t 0x2000 == 0xFF && t.pc == 0x0100 &&
      t.trace == [.breakpoint .memoryWrite 0x2000 0x66] && t.bpReads == [[0x0000]]) = true := by decide
theorem test_callback_reads_in_bounds : runs [0x77]
    { start with h := 0x20, a := 0x66, bpWrite := [0x2000], cbBkpt := true, bpReads := [[0x2000, 0x3FFF], [0x0000]] }
    (fun t => at_ t 0x2000 == 0x66 && t.pc == 0x0101 && t.bpReads == [[0x0000]]) = true := by decide
theorem test_opcode_callback_read_faults :
    faults [0x00] { start with
      bpOpcode := [0x0101], cbBkpt := true, bpReads := [[0xFFFF]], cfg := { cfgT with ramMirrored := false } }
    (.memReadOutOfBounds 0xFFFF 0xFFFF) (fun t => t.pc == 0x0101 && t.trace.length == 1) = true := by decide
theorem test_IN1_masked : nextIs (interrupt 1 { start with sp := 0x2400 }) (fun t => t == { start with sp := 0x2400 }) = true := by
  decide
theorem test_IN2_entry : nextIs (interrupt 1 { start with sp := 0x2400, ie := true })
    (fun t => t.sp == 0x23FE && t.pc == 8 && at_ t 0x23FE == 0 && at_ t 0x23FF == 1 && t.ie) = true := by decide
theorem test_IN3_clears_ie :
    nextIs (interrupt 2 { start with sp := 0x2400, ie := true, cfg := { cfgT with intClearsIe := true } })
    (fun t => t.pc == 0x0010 && !t.ie) = true := by decide
theorem test_queue_runs_host_call_first : nextIs (step { start with hostCalls := [.interrupt 3], ie := true, sp := 0x2400 })
    (fun t => t.pc == 0x0018 && t.hostCalls == [] && t.nsteps == 0) = true := by decide
theorem test_withFetchWord_runs_at_reset : nextIs (step (State.reset.withFetchWord 16 0x053E)) (fun t => t.a == 5 && t.pc == 2) = true := by
  decide

/-! ### Witnesses: for every statement with hypotheses, a state and operands that meet them, clause by clause -/

theorem readable_of {s : State} {x : Word} (h : decide (fold s.cfg x < totalSize s.cfg) = true) : Readable s x := by
  unfold Readable
  exact of_decide_eq_true h

theorem not_readable_of {s : State} {x : Word} (h : decide (fold s.cfg x < totalSize s.cfg) = false) : ¬ Readable s x := by
  unfold Readable
  exact of_decide_eq_false h

theorem writable_of {s : State} {x : Word}
    (h : decide (fold s.cfg x < totalSize s.cfg ∧ (s.cfg.romSize ≤ fold s.cfg x ∨ s.cfg.romWriteable = true)) = true) :
    Writable s x := by
  unfold Writable
  exact of_decide_eq_true h

theorem not_writable_of {s : State} {x : Word}
    (h : decide (fold s.cfg x < totalSize s.cfg ∧ (s.cfg.romSize ≤ fold s.cfg x ∨ s.cfg.romWriteable = true)) = false) :
    ¬ Writable s x := by
  unfold Writable
  exact of_decide_eq_false h

/-- In configuration T every instruction's own rule runs. -/
theorem witness_Runs (i : Instr) : Runs i start := rfl

/-- Configuration T without mirroring: addresses from 0x4000 up do not exist. -/
def flat : State := { start with cfg := { cfgT with ramMirrored := false } }

/-- The boundary addresses a read clause meets: the last byte that can be read and the first that cannot. -/
theorem witness_read_clauses : Readable flat 0x3FFF ∧ ¬ Readable flat 0x4000 :=
  ⟨readable_of (by decide), not_readable_of (by decide)⟩

/-- The boundary addresses a write clause meets: last of ROM, first and last of RAM, first beyond. -/
theorem witness_write_clauses :
    ¬ Writable flat 0x0FFF ∧ Writable flat 0x1000 ∧ Writable flat 0x3FFF ∧ ¬ Writable flat 0x4000 :=
  ⟨not_writable_of (by decide), writable_of (by decide), writable_of (by decide), not_writable_of (by decide)⟩

theorem witness_HostResetAndInit :
    start.run = .running ∧ { start with run := .exited }.run ≠ .running ∧ start.cfg.valid = true := by decide

theorem witness_SetUpFillsStorage :
    { start.cfg with romSize := 0, ramSize := 0x10000, romWriteable := true, ramMirrored := true }.valid = true ∧
    0x3FFF + ([0x76] : List Byte).length ≤ totalSize start.cfg ∧
    totalSize start.cfg < 0x4000 + ([0x76] : List Byte).length := by decide

theorem witness_IllFormedConfigurationsAreRefused :
    ({ cfgT with romSize := 0, ramSize := 0 }.romSize + { cfgT with romSize := 0, ramSize := 0 }.ramSize = 0) ∧
    0x10000 < { cfgT with ramSize := 0xF001 }.romSize + { cfgT with ramSize := 0xF001 }.ramSize ∧
    ({ cfgT with ramSize := 0 }.ramMirrored = true ∧ { cfgT with ramSize := 0 }.ramSize = 0) ∧
    { cfgT with diagVector := 0 }.diagVector = 0 ∧ { start with cfg := { cfgT with diagVector := 0 } }.cfg.valid = false ∧
    { start.cfg with romSize := 1, ramSize := 0x10000, romWriteable := true, ramMirrored := true }.valid = false := by
  decide

theorem witness_HostSetsBreakpointsAndCallbacks : start.run = .running := rfl

theorem witness_FoldSubtractsRamPeriod :
    flat.cfg.ramMirrored = false ∧ (cfgT.ramMirrored = true ∧ 1 ≤ cfgT.ramSize) ∧
    (0x3FFF : Word).toNat < totalSize cfgT ∧ totalSize cfgT ≤ (0x4000 : Word).toNat := by decide

theorem witness_MirroredAddressesShareByte :
    start.cfg.ramMirrored = true ∧
    (0 < start.cfg.ramSize ∧ (0x4000 : Word).toNat = totalSize start.cfg + 0 ∧
      (0x1000 : Word).toNat = start.cfg.romSize + 0) ∧
    (0x2FFF < start.cfg.ramSize ∧ (0x6FFF : Word).toNat = totalSize start.cfg + 0x2FFF ∧
      (0x3FFF : Word).toNat = start.cfg.romSize + 0x2FFF) := by decide

theorem witness_MemReadFollowsRule :
    fold flat.cfg 0x3FFF < totalSize flat.cfg ∧ totalSize flat.cfg ≤ fold flat.cfg 0x4000 := by decide

/-- The cases of a write's callback: no notification, a notification whose reads are in bounds, and one with a read out
of bounds, whose first is the one that faults. -/
theorem witness_callback_clauses :
    let s := { flat with bpWrite := [0x2000], cbBkpt := true }
    callbackFault 0x2001 s = none ∧ callbackFault 0x2000 { s with bpReads := [[0x0000, 0x3FFF], [0x4000]] } = none ∧
    callbackFault 0x2000 { s with bpReads := [[0x3FFF, 0x4000, 0xFFFF]] } = some 0x4000 := by decide

theorem witness_MemWriteFollowsRule : Writable flat 0x1000 ∧ ¬ Writable flat 0x0FFF ∧ ¬ Writable flat 0x4000 :=
  ⟨witness_write_clauses.2.1, witness_write_clauses.1, witness_write_clauses.2.2.2⟩

/-- A step that stores, and an interrupt entry that stores, both complete with ROM protected. -/
theorem witness_ProtectedRomNeverChanges :
    start.cfg.romWriteable = false ∧ 0x0FFF < start.cfg.romSize ∧
    nextIs (instrStep (holding 0x0100 [0x77] { start with h := 0x20 })) (fun _ => true) = true ∧
    nextIs (interrupt 7 { start with sp := 0x2400, ie := true }) (fun _ => true) = true := by decide

theorem witness_DecodedBytesAreTheEncoding :
    decode [0xC3, 0x34, 0x12, 0xFF] = .ok (.jmp 0x1234, [0xFF]) ∧ decode [0xC3, 0x34] = .error (.operandMissing 0xC3) :=
  ⟨rfl, rfl⟩

theorem witness_StepRunsDecodedInstruction :
    let s := holding 0x0100 [0x3A, 0x34, 0x12] start
    s.hostCalls = [] ∧ s.run = .running ∧ Runs (.lda 0x1234) s ∧
    ∀ k, k < (encode (.lda 0x1234)).length → Readable s (s.pc + BitVec.ofNat 16 k) ∧
      byteAt s (s.pc + BitVec.ofNat 16 k) = (encode (.lda 0x1234)).getD k 0 := by
  refine ⟨rfl, rfl, rfl, fun k hk => ?_⟩
  match k, hk with
  | 0, _ => exact ⟨readable_of (by decide), by decide⟩
  | 1, _ => exact ⟨readable_of (by decide), by decide⟩
  | 2, _ => exact ⟨readable_of (by decide), by decide⟩
  | n + 3, hk => exact absurd hk (Nat.not_lt.2 (Nat.le_add_left 3 n))

/-- With the opcode breakpoint of the new PC set and the callback present, the notification clause is met too. -/
theorem witness_opcode_breakpoint_clause :
    runs [0x3A, 0x34, 0x12] { start with bpOpcode := [0x0103], cbBkpt := true }
      (fun t => decide (t.run = .running) && t.bpOpcode.contains t.pc && t.cbBkpt && t.notices == 1) = true := by decide

theorem witness_StepFallsBackOutsideImplSet :
    let s := { start with cfg := { cfgT with unimplemented := [0x27] }, store := [(0x0100, 0x27)] }
    s.hostCalls = [] ∧ s.run = .running ∧ implemented s.cfg (byteAt s s.pc) = false ∧
    (∀ k, k < (fallbackLen s.cfg (byteAt s s.pc)).bytes → Readable s (s.pc + BitVec.ofNat 16 k)) ∧
    s.pc + BitVec.ofNat 16 (fallbackLen s.cfg (byteAt s s.pc)).bytes ∉ s.bpOpcode := by
  refine ⟨rfl, rfl, by decide, fun k hk => ?_, List.not_mem_nil⟩
  match k, hk with
  | 0, _ => exact readable_of (by decide)
  | n + 1, hk => exact absurd hk (by
      show ¬ n + 1 < 1
      exact Nat.not_lt.2 (Nat.le_add_left 1 n))

theorem witness_FallbackChangesOnlyPc :
    implemented { cfgT with unimplemented := [0x27] } (Instr.opcode .daa) = false ∧
    ∀ n, (Instr.opcode .daa, n) ∉ cfgT.fallbackLens := ⟨by decide, fun _ => List.not_mem_nil⟩

theorem witness_FetchFaultEndsStep :
    flat.hostCalls = [] ∧ flat.run = .running ∧ ¬ Readable { flat with pc := 0x4000 } 0x4000 ∧
    (let s := { flat with pc := 0x3FFE, store := [(0x3FFE, 0xC3)] }
    2 < (fetchLen s.cfg (byteAt s s.pc)).bytes ∧ Readable s (s.pc + BitVec.ofNat 16 0) ∧
      Readable s (s.pc + BitVec.ofNat 16 1) ∧ ¬ Readable s (s.pc + BitVec.ofNat 16 2)) :=
  ⟨rfl, rfl, not_readable_of (by decide), by decide, readable_of (by decide), readable_of (by decide),
    not_readable_of (by decide)⟩

theorem witness_TerminalStatusIsFinal : { start with run := .exited }.run ≠ .running := by decide

theorem witness_HostCallsComeFirst :
    start.run = .running ∧ { start with hostCalls := [.step] }.hostCalls = .step :: [] ∧
    { start with hostCalls := [.interrupt 7] }.hostCalls = .interrupt 7 :: [] ∧
    { start with hostCalls := [.write 0x1000 1] }.hostCalls = .write 0x1000 1 :: [] ∧
    ({ start with run := .exited, hostCalls := [.reset] }.run ≠ .running ∧
      { start with run := .exited, hostCalls := [.reset] }.hostCalls = .reset :: []) := by decide

/-- NOP, DI, HLT and the twelve alias bytes left out of IMPL_SET: the fallback clauses are met. -/
def bare : State :=
  { start with
    cfg := { cfgT with
      unimplemented := [0x00, 0x08, 0x10, 0x18, 0x20, 0x28, 0x30, 0x38, 0x76, 0xCB, 0xD9, 0xDD, 0xED, 0xF3, 0xFD] } }

theorem witness_fallback_clauses :
    bare.cfg.valid = true ∧ ¬ Runs (.jmpCB 0) bare ∧ ¬ Runs .retD9 bare ∧ ¬ Runs (.callDD 0) bare ∧
    ¬ Runs (.callED 0) bare ∧ ¬ Runs (.callFD 0) bare ∧ ¬ Runs .di bare ∧ ¬ Runs .nop bare ∧ ¬ Runs .nop38 bare ∧
    ¬ Runs .hlt bare := by
  unfold Runs
  decide

theorem witness_MovBetweenRegisters : Runs (movForm .h .l) start := rfl

theorem witness_LoadsReadMemory :
    (Runs (movFromM .a) start ∧ Readable start (wordOf start.h start.l)) ∧
    (Runs (.lda 0xFFFF) start ∧ Readable start 0xFFFF) ∧ (Runs (.lda 0x4000) flat ∧ ¬ Readable flat 0x4000) ∧
    (Runs (.lhld 0xFFFF) start ∧ Readable start 0xFFFF ∧ Readable start (0xFFFF + 1)) ∧
    (Runs (.lhld 0x3FFF) flat ∧ Readable flat 0x3FFF ∧ ¬ Readable { flat with l := byteAt flat 0x3FFF } (0x3FFF + 1)) ∧
    (Runs (ldaxForm .bc) start ∧ Readable start (getPair (indexPair .bc) start)) :=
  ⟨⟨rfl, readable_of (by decide)⟩, ⟨rfl, readable_of (by decide)⟩, ⟨rfl, not_readable_of (by decide)⟩,
    ⟨rfl, readable_of (by decide), readable_of (by decide)⟩, ⟨rfl, readable_of (by decide), not_readable_of (by decide)⟩,
    ⟨rfl, readable_of (by decide)⟩⟩

theorem witness_StoresWriteMemory :
    (Runs (movToM .a) start ∧ ¬ Writable start (wordOf start.h start.l)) ∧
    (let s := { start with h := 0x10 }
    Runs (movToM .h) s ∧ Runs (.mviM 0) s ∧ Writable s (wordOf s.h s.l)) ∧
    (Runs (.sta 0x1000) start ∧ Writable start 0x1000 ∧ ¬ Writable start 0x0FFF) ∧
    (Runs (.shld 0xFFFF) start ∧ Writable start 0xFFFF ∧ ¬ Writable start (0xFFFF + 1)) ∧
    (Runs (.shld 0x2000) start ∧ Writable start 0x2000 ∧ Writable start (0x2000 + 1)) ∧
    (let s := { start with b := 0x10 }
    Runs (staxForm .bc) s ∧ Writable s (getPair (indexPair .bc) s)) :=
  ⟨⟨rfl, not_writable_of (by decide)⟩, ⟨rfl, rfl, writable_of (by decide)⟩,
    ⟨rfl, writable_of (by decide), not_writable_of (by decide)⟩,
    ⟨rfl, writable_of (by decide), not_writable_of (by decide)⟩, ⟨rfl, writable_of (by decide), writable_of (by decide)⟩,
    ⟨rfl, writable_of (by decide)⟩⟩

theorem witness_ImmediateLoads : Runs (mviForm .b 0xFF) start ∧ Runs (lxiForm .sp 0xFFFF) start := ⟨rfl, rfl⟩

theorem witness_ExchangeAndSphl : Runs .xchg start ∧ Runs .sphl start := ⟨rfl, rfl⟩

/-- The operand M of an ALU instruction, readable and not. -/
theorem witness_operand_M : Readable start (wordOf start.h start.l) ∧
    ¬ Readable { flat with h := 0x40 } (wordOf 0x40 flat.l) := ⟨readable_of (by decide), not_readable_of (by decide)⟩

theorem witness_Additions : Runs (aluForm .add .m) start ∧ Runs (aluForm .adc (.reg .a)) start ∧
    Runs (.adi 0xFF) start ∧ Runs (.aci 0xFF) start := ⟨rfl, rfl, rfl, rfl⟩

theorem witness_Subtractions : Runs (aluForm .sub .m) start ∧ Runs (aluForm .sbb (.reg .a)) start ∧
    Runs (.sui 0xFF) start ∧ Runs (.sbi 0xFF) start := ⟨rfl, rfl, rfl, rfl⟩

theorem witness_Comparisons : Runs (aluForm .cmp .m) start ∧ Runs (.cpi 0) start := ⟨rfl, rfl⟩

theorem witness_LogicalOperations : Runs (aluForm .ana .m) start ∧ Runs (aluForm .xra (.reg .a)) start ∧
    Runs (aluForm .ora (.reg .b)) start ∧ Runs (.ani 0) start ∧ Runs (.xri 0) start ∧ Runs (.ori 0) start :=
  ⟨rfl, rfl, rfl, rfl, rfl, rfl⟩

theorem witness_IncrementRegister : Runs (inrForm .a) start ∧ Runs (dcrForm .a) start := ⟨rfl, rfl⟩

theorem witness_IncrementMemory :
    (let s := { start with h := 0x20 }
    Runs .inrM s ∧ Runs .dcrM s ∧ Readable s (wordOf s.h s.l) ∧ Writable s (wordOf s.h s.l)) ∧
    (Readable start (wordOf start.h start.l) ∧ ¬ Writable start (wordOf start.h start.l)) ∧
    ¬ Readable { flat with h := 0x40 } (wordOf 0x40 flat.l) :=
  ⟨⟨rfl, rfl, readable_of (by decide), writable_of (by decide)⟩, ⟨readable_of (by decide), not_writable_of (by decide)⟩,
    not_readable_of (by decide)⟩

theorem witness_IncrementPair : Runs (inxForm .sp) start ∧ Runs (dcxForm .sp) start := ⟨rfl, rfl⟩

theorem witness_DoubleAdd : Runs (dadForm .hl) start := rfl

theorem witness_DecimalAdjust : Runs .daa start := rfl

theorem witness_Rotates : Runs .rlc start ∧ Runs .rrc start ∧ Runs .ral start ∧ Runs .rar start := ⟨rfl, rfl, rfl, rfl⟩

theorem witness_ComplementAndCarry : Runs .cma start ∧ Runs .cmc start ∧ Runs .stc start := ⟨rfl, rfl, rfl⟩

theorem witness_JumpsAssignPc : Runs (.jmp 0) start ∧ Runs (.jmpCB 0xFFFF) start ∧ Runs .pchl start := ⟨rfl, rfl, rfl⟩

theorem witness_ConditionalJumps : Runs (jccForm .nz 0) start ∧ conditionTrue .nz start.flags = true ∧
    Runs (jccForm .m 0) start ∧ conditionTrue .m start.flags = false := ⟨rfl, rfl, rfl, rfl⟩

/-- The three ways a push can go: both bytes stored; the first faults; the first stored and the second faults. -/
theorem witness_push_clauses :
    (Writable { start with sp := 0x2400 } (0x2400 - 1) ∧ Writable { start with sp := 0x2400 } (0x2400 - 2)) ∧
    ¬ Writable { start with sp := 1 } (1 - 1) ∧
    (Writable { start with sp := 0x1001 } (0x1001 - 1) ∧ ¬ Writable { start with sp := 0x1001 } (0x1001 - 2)) :=
  ⟨⟨writable_of (by decide), writable_of (by decide)⟩, not_writable_of (by decide), writable_of (by decide),
    not_writable_of (by decide)⟩

/-- The three ways a pop can go. -/
theorem witness_pop_clauses :
    (Readable start start.sp ∧ Readable start (start.sp + 1)) ∧ ¬ Readable { flat with sp := 0x4000 } 0x4000 ∧
    (Readable { flat with sp := 0x3FFF } 0x3FFF ∧ ¬ Readable { flat with sp := 0x3FFF } (0x3FFF + 1)) :=
  ⟨⟨readable_of (by decide), readable_of (by decide)⟩, not_readable_of (by decide), readable_of (by decide),
    not_readable_of (by decide)⟩

theorem witness_CallsPushReturnAddress :
    (Runs (.call 0) start ∧ start.cfg.diagEnabled = false) ∧
    (Runs (.call 0x3000) hooked ∧ (0x3000 : Word) ≠ 0 ∧ (0x3000 : Word) ≠ hooked.cfg.diagVector) ∧
    Runs (.callDD 5) hooked ∧ Runs (.callED 0) hooked ∧ Runs (.callFD 5) hooked ∧ Runs (rstForm 7) start :=
  ⟨⟨rfl, rfl⟩, ⟨rfl, by decide, by decide⟩, rfl, rfl, rfl, rfl⟩

theorem witness_ConditionalCalls : Runs (cccForm .nz 0) start ∧ conditionTrue .nz start.flags = true ∧
    Runs (cccForm .m 0) start ∧ conditionTrue .m start.flags = false := ⟨rfl, rfl, rfl, rfl⟩

theorem witness_ReturnsPopPc : Runs .ret start ∧ Runs .retD9 start ∧
    (Runs (rccForm .nz) start ∧ conditionTrue .nz start.flags = true) ∧
    (Runs (rccForm .m) start ∧ conditionTrue .m start.flags = false) := ⟨rfl, rfl, ⟨rfl, rfl⟩, rfl, rfl⟩

theorem witness_DiagnosticExitAndTrace : hooked.cfg.diagEnabled = true ∧ Runs (.call 0) hooked ∧
    hooked.cfg.diagVector ≠ 0 ∧ hooked.c ≠ hooked.cfg.diagPrintC := ⟨rfl, rfl, by decide, by decide⟩

/-- A text of one character, its end readable and a '$'; the same text with its end not readable. -/
theorem witness_DiagnosticConsolePrints :
    (let s := holding 0x2000 [0x4F, 0x24] { hooked with c := 9, d := 0x20 }
    s.cfg.diagEnabled = true ∧ s.cfg.diagVector ≠ 0 ∧ Runs (.call s.cfg.diagVector) s ∧ s.c = s.cfg.diagPrintC ∧
    (∀ k, k < ([0x4F] : List Byte).length → Readable s (wordOf s.d s.e + BitVec.ofNat 16 k) ∧
      byteAt s (wordOf s.d s.e + BitVec.ofNat 16 k) = ([0x4F] : List Byte).getD k 0 ∧
      ([0x4F] : List Byte).getD k 0 ≠ 0x24 ∧ ([0x4F] : List Byte).getD k 0 ≠ 0x00) ∧
    Readable s (wordOf s.d s.e + BitVec.ofNat 16 1) ∧ byteAt s (wordOf s.d s.e + BitVec.ofNat 16 1) = 0x24) ∧
    (let s := { hooked with
      c := 9, d := 0x3F, e := 0xFF, cfg := { hooked.cfg with ramMirrored := false }, store := [(0x3FFF, 0x4F)] }
    (Readable s (wordOf s.d s.e) ∧ byteAt s (wordOf s.d s.e) = 0x4F) ∧
      ¬ Readable s (wordOf s.d s.e + BitVec.ofNat 16 1)) := by
  refine ⟨⟨rfl, by decide, rfl, rfl, fun k hk => ?_, readable_of (by decide), by decide⟩,
    ⟨readable_of (by decide), by decide⟩, not_readable_of (by decide)⟩
  match k, hk with
  | 0, _ => exact ⟨readable_of (by decide), by decide, by decide, by decide⟩
  | n + 1, hk => exact absurd hk (by
      show ¬ n + 1 < 1
      exact Nat.not_lt.2 (Nat.le_add_left 1 n))

/-- The reset configuration with the hook on: empty memory reads as 0xFF at every address. -/
def blank : State := { State.reset with c := 9, cfg := { MachineConfig.atReset with diagEnabled := true } }

theorem blank_readable (x : Word) : Readable blank x ∧ byteAt blank x = 0xFF := ⟨x.isLt, rfl⟩

/-- A text of 65536 characters with no terminator. -/
theorem witness_DiagnosticConsolePrints_unterminated :
    (blank.cfg.diagEnabled = true ∧ blank.cfg.diagVector ≠ 0 ∧ Runs (.call blank.cfg.diagVector) blank ∧
      blank.c = blank.cfg.diagPrintC) ∧
    ∃ text : List Byte, text.length = 65536 ∧
    ∀ k, k < text.length → Readable blank (wordOf blank.d blank.e + BitVec.ofNat 16 k) ∧
      byteAt blank (wordOf blank.d blank.e + BitVec.ofNat 16 k) = text.getD k 0 ∧
      text.getD k 0 ≠ 0x24 ∧ text.getD k 0 ≠ 0x00 := by
  refine ⟨⟨rfl, by decide, rfl, rfl⟩, ?_⟩
  generalize 65536 = n
  refine ⟨List.replicate n 0xFF, List.length_replicate, fun k hk => ?_⟩
  rw [List.length_replicate] at hk
  have ht : (List.replicate n (0xFF : Byte)).getD k 0 = 0xFF := by
    rw [List.getD_eq_getElem?_getD, List.getElem?_replicate, if_pos hk]
    rfl
  rw [ht]
  exact ⟨(blank_readable _).1, (blank_readable _).2, by decide, by decide⟩

theorem witness_PushStoresPair : Runs (pushForm .hl) start ∧ Runs .pushPsw start := ⟨rfl, rfl⟩

theorem witness_PopLoadsPair : Runs (popForm .hl) start ∧ Runs .popPsw start := ⟨rfl, rfl⟩

theorem witness_ExchangeStackTop :
    (let s := { start with sp := 0x2400 }
    Runs .xthl s ∧ Readable s s.sp ∧ Readable s (s.sp + 1) ∧ Writable s s.sp ∧ Writable s (s.sp + 1)) ∧
    (let s := { start with sp := 0xFFFF }
    Readable s s.sp ∧ Readable s (s.sp + 1) ∧ Writable s s.sp ∧ ¬ Writable s (s.sp + 1)) ∧
    (Readable { start with sp := 0x0800 } 0x0800 ∧ ¬ Writable { start with sp := 0x0800 } 0x0800) :=
  ⟨⟨rfl, readable_of (by decide), readable_of (by decide), writable_of (by decide), writable_of (by decide)⟩,
    ⟨readable_of (by decide), readable_of (by decide), writable_of (by decide), not_writable_of (by decide)⟩,
    readable_of (by decide), not_writable_of (by decide)⟩

/-- PUSH then POP, and CALL then RET, both complete where the two stack bytes are two bytes. -/
theorem witness_StackRoundTrips :
    let s := { start with sp := 0x2400 }
    Runs (pushForm .de) s ∧ Runs (popForm .de) s ∧ Runs (.call 0x3000) s ∧ Runs .ret s ∧ s.cfg.diagEnabled = false ∧
    fold s.cfg (s.sp - 1) ≠ fold s.cfg (s.sp - 2) ∧
    nextIs (exec (pushForm .de) s) (fun t => nextIs (exec (popForm .de) t) (fun _ => true)) = true ∧
    nextIs (exec (.call 0x3000) s) (fun t => nextIs (exec .ret t) (fun _ => true)) = true :=
  ⟨rfl, rfl, rfl, rfl, rfl, by decide, by decide, by decide⟩

theorem witness_InputFromPort :
    (Runs (.inPort 1) start ∧ start.cbIn = false) ∧
    ({ start with cbIn := true }.cbIn = true ∧ { start with cbIn := true }.inAnswers = []) ∧
    { start with cbIn := true, inAnswers := [8] }.inAnswers = 8 :: [] := ⟨⟨rfl, rfl⟩, ⟨rfl, rfl⟩, rfl⟩

theorem witness_OutputToPort :
    Runs (.outPort 4) start ∧ start.cbOut = false ∧ { start with cbOut := true }.cbOut = true := ⟨rfl, rfl, rfl⟩

theorem witness_EnableInterruptAndNoOperation :
    Runs .ei start ∧ Runs .di start ∧ Runs .nop38 start ∧
    ¬ Runs .di { start with cfg := { cfgT with unimplemented := [0xF3] } } ∧
    ∀ n, (Instr.opcode .di, n) ∉ cfgT.fallbackLens :=
  ⟨rfl, rfl, rfl, fun h => absurd h (by
    show implemented { cfgT with unimplemented := [0xF3] } 0xF3 ≠ true
    decide), fun _ => List.not_mem_nil⟩

theorem witness_HaltIsRefusedOrSkipped :
    Runs .hlt start ∧ ¬ Runs .hlt State.reset ∧ State.reset.cfg.fallbackLens = [] :=
  ⟨rfl, fun h => absurd h (by
    show implemented MachineConfig.atReset 0x76 ≠ true
    decide), rfl⟩

theorem witness_InterruptEntry :
    start.run = .running ∧ ((0 : Int) ≤ 0 ∧ (0 : Int) ≤ 7) ∧ ((0 : Int) ≤ 7 ∧ (7 : Int) ≤ 7) ∧
    { start with ie := true }.ie = true ∧ start.ie = false ∧ ((-1 : Int) < 0 ∧ (7 : Int) < 8) ∧
    { start with run := .exited }.run ≠ .running := by decide

/-- A fault after a partial effect, at the instruction level. -/
theorem witness_FaultsArePrecise :
    (match exec (pushForm .bc) { start with sp := 0x1001 } with
    | .fault _ => true
    | _ => false) = true := by decide

theorem witness_StepKeepsInvariant : Inv start ∧ nextIs (step start) (fun _ => true) = true :=
  ⟨⟨by decide, by decide, by decide, by decide, by decide⟩, by decide⟩

theorem witness_OnlyListedInstructionsWriteFlags :
    nextIs (exec .nop start) (fun _ => true) = true ∧ ¬ WritesFlags .nop ∧ WritesFlags .daa ∧
    nextIs (exec (inrForm .a) start) (fun _ => true) = true ∧ nextIs (exec (dadForm .hl) start) (fun _ => true) = true := by
  refine ⟨by decide, ?_, ?_, by decide, by decide⟩
  · rintro (⟨op, r, h⟩ | ⟨op, d8, h⟩ | ⟨r, h⟩ | ⟨r, h⟩ | ⟨p, h⟩ | h)
    · rcases r with r | _
      · cases op <;> cases r <;> cases h
      · cases op <;> cases h
    · cases op <;> cases h
    · cases r <;> cases h
    · cases r <;> cases h
    · cases p <;> cases h
    · revert h
      decide
  · exact .inr (.inr (.inr (.inr (.inr (by decide)))))

theorem witness_OnlyEiChangesIe :
    nextIs (exec .ei start) (fun t => t.ie) = true ∧ nextIs (exec .di { start with ie := true }) (fun t => t.ie) = true := by
  decide

/-- A next state that runs on, and the one that exits. -/
theorem witness_InstructionsLeaveEngineState :
    nextIs (exec .nop start) (fun t => t.run == start.run) = true ∧
    nextIs (exec (.call 0) hooked) (fun t => t.run == .exited) = true := by decide

end Sys2Proof.Tests
end

section
/-! The host's queue of calls: what a step does with the call that stands first. -/

namespace Sys2Proof.Machine

variable {s : State} {k : HostCall} {rest : List HostCall}

/-- A step with a call waiting carries out that call on the state without it (notes/assumptions/9.md). -/
theorem step_of_hostCalls_cons (hq : s.hostCalls = k :: rest) :
    step s = hostCall k { s with hostCalls := rest } := by
  simp only [step, nextTransaction, hq]

/-- R51, R300: in a terminal status a call of the host has no effect. -/
theorem hostCall_of_not_running (hr : s.run ≠ .running) : hostCall k s = .next s := if_pos hr

/-- On a running machine the call `step()` is the instruction step (R110). -/
theorem hostCall_step (hr : s.run = .running) : hostCall .step s = instrStep s := if_neg (not_not_intro hr)

/-- On a running machine the call `interrupt(n)` is the interrupt entry (R310). -/
theorem hostCall_interrupt {n : Int} (hr : s.run = .running) : hostCall (.interrupt n) s = interrupt n s :=
  if_neg (not_not_intro hr)

/-- On a running machine the host's write is the Memory Map's write between steps (R94). -/
theorem hostCall_write {x : Word} {v : Byte} (hr : s.run = .running) : hostCall (.write x v) s = storeByte x v s :=
  if_neg (not_not_intro hr)

/-- Settles O20: the step carries out the first call on the state without it, and the status that decides whether that
call has an effect is untouched by the removal. -/
theorem hostCallsComeFirst : Obligations.HostCallsComeFirst := by
  intro s rest
  refine ⟨fun hr => ⟨fun hq => ?step, fun n hq => ?interrupt, fun x v hq => ?write⟩, fun hr c hq => ?terminal⟩
  case step => exact (step_of_hostCalls_cons hq).trans (hostCall_step hr)
  case interrupt => exact (step_of_hostCalls_cons hq).trans (hostCall_interrupt hr)
  case write => exact (step_of_hostCalls_cons hq).trans (hostCall_write hr)
  case terminal => exact (step_of_hostCalls_cons hq).trans (hostCall_of_not_running hr)

end Sys2Proof.Machine
end

section
/-! The host's settings (R47, R48), the terminal statuses (R51) and the register pairs (R31). -/

open Sys2Proof.Claims

namespace Sys2Proof.Machine

variable {s : State}

/-- On a running machine addBreakpoint puts the address in the set of its kind (R47). -/
theorem hostCall_addBreakpoint {k : BreakpointKind} {x : Word} (hr : s.run = .running) :
    hostCall (.addBreakpoint k x) s = .next (addBreakpoint k x s) := if_neg (not_not_intro hr)

/-- Settles O5: the new set is the old one with the address inserted, and a setter of a callback is one field update. -/
theorem hostSetsBreakpointsAndCallbacks : Obligations.HostSetsBreakpointsAndCallbacks := by
  refine ⟨fun s x hr => ?memoryWrite, fun s x hr => ?opcodeReached, fun s b hr => ?callbacks⟩
  case memoryWrite => exact ⟨insertAddress x s.bpWrite, hostCall_addBreakpoint hr, fun _ => mem_insertAddress⟩
  case opcodeReached => exact ⟨insertAddress x s.bpOpcode, hostCall_addBreakpoint hr, fun _ => mem_insertAddress⟩
  case callbacks =>
    have hr' : ¬ s.run ≠ .running := not_not_intro hr
    exact ⟨if_neg hr', if_neg hr', if_neg hr'⟩

theorem instrStep_of_not_running (hr : s.run ≠ .running) : instrStep s = .next s := if_neg hr

theorem interrupt_of_not_running {n : Int} (hr : s.run ≠ .running) : interrupt n s = .next s := if_pos hr

/-- Settles O19: both transactions test RUN before anything else. -/
theorem terminalStatusIsFinal : Obligations.TerminalStatusIsFinal :=
  fun _ hr => ⟨instrStep_of_not_running hr, fun _ => interrupt_of_not_running hr⟩

theorem highByte_eq_highOf (v : Word) : highByte v = highOf v := by
  apply BitVec.eq_of_toNat_eq
  simp [highByte, highOf, Nat.shiftRight_eq_div_pow]

theorem lowByte_eq_lowOf (v : Word) : lowByte v = lowOf v := by
  apply BitVec.eq_of_toNat_eq
  simp [lowByte, lowOf]

theorem setPair_getPair (p : Pair) (s : State) : setPair p (getPair p s) s = s := by
  cases p <;> simp [setPair, getPair, getBC, getDE, getHL]

/-- Settles O21: the model's halves of a word are the numeric ones, and joining the halves of a word gives it back. -/
theorem registerPairsAreViews : Obligations.RegisterPairsAreViews := by
  intro s v
  refine ⟨⟨rfl, rfl, rfl, rfl⟩, ?writes, fun p => getPair_setPair_same p v s, fun p => setPair_getPair p s⟩
  simp [setPair, highByte_eq_highOf, lowByte_eq_lowOf]

end Sys2Proof.Machine
end

section
/-! Which rule gives each row of the opcode table its meaning. -/

namespace Sys2Proof.Machine

/-- `HasRule rule i`: inside IMPL_SET the row `i` runs `rule` (R111). The rule stands first, so that a concrete rule
finds its row. -/
inductive HasRule : (State → Host.Outcome State Fault Refusal) → Instr → Prop
  | mov {i} (dst src : Reg8) (hi : i = movForm dst src) : HasRule (movRule (.reg dst) (.reg src)) i
  | movFromM {i} (dst : Reg8) (hi : i = movFromM dst) : HasRule (movRule (.reg dst) .m) i
  | movToM {i} (src : Reg8) (hi : i = movToM src) : HasRule (movRule .m (.reg src)) i
  | add {i} (src : Operand8) (hi : i = aluForm .add src) : HasRule (operandRule addRule src) i
  | adc {i} (src : Operand8) (hi : i = aluForm .adc src) : HasRule (operandRule adcRule src) i
  | sub {i} (src : Operand8) (hi : i = aluForm .sub src) : HasRule (operandRule subRule src) i
  | sbb {i} (src : Operand8) (hi : i = aluForm .sbb src) : HasRule (operandRule sbbRule src) i
  | ana {i} (src : Operand8) (hi : i = aluForm .ana src) : HasRule (operandRule anaRule src) i
  | xra {i} (src : Operand8) (hi : i = aluForm .xra src) : HasRule (operandRule xraRule src) i
  | ora {i} (src : Operand8) (hi : i = aluForm .ora src) : HasRule (operandRule oraRule src) i
  | cmp {i} (src : Operand8) (hi : i = aluForm .cmp src) : HasRule (operandRule cmpRule src) i
  | adi {i} (d8 : Byte) (hi : i = aluImmForm .add d8) : HasRule (immediateRule addRule d8) i
  | aci {i} (d8 : Byte) (hi : i = aluImmForm .adc d8) : HasRule (immediateRule adcRule d8) i
  | sui {i} (d8 : Byte) (hi : i = aluImmForm .sub d8) : HasRule (immediateRule subRule d8) i
  | sbi {i} (d8 : Byte) (hi : i = aluImmForm .sbb d8) : HasRule (immediateRule sbbRule d8) i
  | ani {i} (d8 : Byte) (hi : i = aluImmForm .ana d8) : HasRule (immediateRule anaRule d8) i
  | xri {i} (d8 : Byte) (hi : i = aluImmForm .xra d8) : HasRule (immediateRule xraRule d8) i
  | ori {i} (d8 : Byte) (hi : i = aluImmForm .ora d8) : HasRule (immediateRule oraRule d8) i
  | cpi {i} (d8 : Byte) (hi : i = aluImmForm .cmp d8) : HasRule (immediateRule cmpRule d8) i
  | inr {i} (dst : Reg8) (hi : i = inrForm dst) : HasRule (inrRule (.reg dst)) i
  | dcr {i} (dst : Reg8) (hi : i = dcrForm dst) : HasRule (dcrRule (.reg dst)) i
  | inrM : HasRule (inrRule .m) .inrM
  | dcrM : HasRule (dcrRule .m) .dcrM
  | inx {i} (p : Pair) (hi : i = inxForm p) : HasRule (inxRule p) i
  | dcx {i} (p : Pair) (hi : i = dcxForm p) : HasRule (dcxRule p) i
  | dad {i} (p : Pair) (hi : i = dadForm p) : HasRule (dadRule p) i
  | daa : HasRule daaRule .daa
  | rlc : HasRule rlcRule .rlc
  | rrc : HasRule rrcRule .rrc
  | ral : HasRule ralRule .ral
  | rar : HasRule rarRule .rar
  | cma : HasRule cmaRule .cma
  | cmc : HasRule cmcRule .cmc
  | stc : HasRule stcRule .stc
  | mvi {i} (dst : Reg8) (d8 : Byte) (hi : i = mviForm dst d8) : HasRule (mviRule (.reg dst) d8) i
  | mviM (d8 : Byte) : HasRule (mviRule .m d8) (.mviM d8)
  | lxi {i} (p : Pair) (d16 : Word) (hi : i = lxiForm p d16) : HasRule (lxiRule p d16) i
  | lda (a16 : Word) : HasRule (ldaRule a16) (.lda a16)
  | sta (a16 : Word) : HasRule (staRule a16) (.sta a16)
  | lhld (a16 : Word) : HasRule (lhldRule a16) (.lhld a16)
  | shld (a16 : Word) : HasRule (shldRule a16) (.shld a16)
  | ldax {i} (p : IndexPair) (hi : i = ldaxForm p) : HasRule (ldaxRule p) i
  | stax {i} (p : IndexPair) (hi : i = staxForm p) : HasRule (staxRule p) i
  | xchg : HasRule xchgRule .xchg
  | jmp {i} (a16 : Word) (hi : i ∈ [.jmp a16, .jmpCB a16]) : HasRule (jmpRule a16) i
  | jcc {i} (k : Cond) (a16 : Word) (hi : i = jccForm k a16) : HasRule (jccRule k a16) i
  | call (a16 : Word) : HasRule (callRule a16) (.call a16)
  | callAlias {i} (a16 : Word) (hi : i ∈ [.callDD a16, .callED a16, .callFD a16]) : HasRule (plainCallRule a16) i
  | ccc {i} (k : Cond) (a16 : Word) (hi : i = cccForm k a16) : HasRule (cccRule k a16) i
  | ret {i} (hi : i ∈ [.ret, .retD9]) : HasRule retRule i
  | rcc {i} (k : Cond) (hi : i = rccForm k) : HasRule (rccRule k) i
  | rst {i} (n : Nat) (hi : ∃ hn : n < 8, i = rstForm ⟨n, hn⟩) : HasRule (rstRule n) i
  | pchl : HasRule pchlRule .pchl
  | push {i} (p : StackPair) (hi : i = pushForm p) : HasRule (pushRule p) i
  | pushPsw : HasRule pushPswRule .pushPsw
  | pop {i} (p : StackPair) (hi : i = popForm p) : HasRule (popRule p) i
  | popPsw : HasRule popPswRule .popPsw
  | xthl : HasRule xthlRule .xthl
  | sphl : HasRule sphlRule .sphl
  | inPort (p8 : Byte) : HasRule (inRule p8) (.inPort p8)
  | outPort (p8 : Byte) : HasRule (outRule p8) (.outPort p8)
  | ei : HasRule eiRule .ei
  | di : HasRule diRule .di
  | hlt : HasRule hltRule .hlt
  | nop {i} (hi : i ∈ [.nop, .nop08, .nop10, .nop18, .nop20, .nop28, .nop30, .nop38]) : HasRule nopRule i

/-- R111: every row runs the rule it has, or the fallback at its own opcode. The equation finds the rule, and the rule,
matched as it is written, finds the constructor. -/
theorem exec_eq_dispatch (i : Instr) : ∃ rule, HasRule rule i ∧ ∀ s, exec i s = dispatch i.opcode rule s := by
  cases i <;> refine ⟨_, ?_, fun _ => rfl⟩ <;> with_reducible constructor <;>
    simp [movForm, movFromM, movToM, aluForm, aluImmForm, inrForm, dcrForm, inxForm, dcxForm, dadForm, mviForm,
      lxiForm, ldaxForm, staxForm, jccForm, cccForm, rccForm, rstForm, pushForm, popForm]

end Sys2Proof.Machine
end

section
/-! What the next state of a transaction satisfies, composed along `andThen`. -/

namespace Sys2Proof.Machine

/-- The value of a transaction that goes well satisfies `Q`; a fault or a refusal is not spoken of. -/
def Ensures {α : Type} (o : Host.Outcome α Fault Refusal) (Q : α → Prop) : Prop := ∀ v, o = .next v → Q v

variable {α β : Type} {o : Host.Outcome α Fault Refusal} {k : α → Host.Outcome β Fault Refusal} {P : α → Prop}
  {Q : β → Prop} {s : State}

theorem ensures_next {v : β} (h : Q v) : Ensures (.next v) Q := fun _ e => by injection e with e; exact e ▸ h

theorem ensures_refuse {i : RefusalInfo} : Ensures (refuse i s) Q := fun _ e => absurd e (refuse_ne_next _ _ _)

theorem Ensures.andThen (h : Ensures o P) (hk : ∀ v, P v → Ensures (k v) Q) : Ensures (andThen o k) Q := by
  intro w e
  obtain ⟨v, hv, hw⟩ := andThen_eq_next.1 e
  exact hk v (h v hv) w hw

/-- After an operation whose value does not matter, such as a read (R76). -/
theorem ensures_andThen (hk : ∀ v, Ensures (k v) Q) : Ensures (andThen o k) Q :=
  Ensures.andThen (P := fun _ => True) (fun _ _ => trivial) fun v _ => hk v

theorem Ensures.mono {P Q : α → Prop} (h : Ensures o P) (hPQ : ∀ v, P v → Q v) : Ensures o Q :=
  fun v e => hPQ v (h v e)

end Sys2Proof.Machine
end

section
/-! The frame of an instruction that writes no flag: what it leaves of the flags, IE, the engine state and the
configuration (R39 to R50). -/

namespace Sys2Proof.Machine

/-- `t` has the flags, IE, RUN, the engine state and the configuration of `s`; its trace has only grown, and the reads
of the breakpoint callback have only been used up. -/
structure Frame (s t : State) : Prop where
  flags : t.flags = s.flags
  ie : t.ie = s.ie
  run : t.run = s.run
  nsteps : t.nsteps = s.nsteps
  bpWrite : t.bpWrite = s.bpWrite
  bpOpcode : t.bpOpcode = s.bpOpcode
  cbIn : t.cbIn = s.cbIn
  cbOut : t.cbOut = s.cbOut
  cbBkpt : t.cbBkpt = s.cbBkpt
  cfg : t.cfg = s.cfg
  hostCalls : t.hostCalls = s.hostCalls
  trace : s.trace <:+ t.trace
  bpReads : t.bpReads <:+ s.bpReads

variable {s t u : State}

theorem Frame.refl (s : State) : Frame s s :=
  ⟨rfl, rfl, rfl, rfl, rfl, rfl, rfl, rfl, rfl, rfl, rfl, List.suffix_refl _, List.suffix_refl _⟩

theorem Frame.trans (h : Frame s t) (h' : Frame t u) : Frame s u where
  flags := h'.flags.trans h.flags
  ie := h'.ie.trans h.ie
  run := h'.run.trans h.run
  nsteps := h'.nsteps.trans h.nsteps
  bpWrite := h'.bpWrite.trans h.bpWrite
  bpOpcode := h'.bpOpcode.trans h.bpOpcode
  cbIn := h'.cbIn.trans h.cbIn
  cbOut := h'.cbOut.trans h.cbOut
  cbBkpt := h'.cbBkpt.trans h.cbBkpt
  cfg := h'.cfg.trans h.cfg
  hostCalls := h'.hostCalls.trans h.hostCalls
  trace := h.trace.trans h'.trace
  bpReads := h'.bpReads.trans h.bpReads

theorem Frame.advance (h : Frame s t) (n : InstrLen) : Frame s (advance n t) := { h with }

theorem Frame.jumpTo (h : Frame s t) (x : Word) : Frame s (jumpTo x t) := { h with }

theorem frame_emit (ev : Event) (s : State) : Frame s (emit ev s) :=
  { Frame.refl s with trace := List.suffix_cons ev s.trace }

theorem frame_setReg (r : Reg8) (v : Byte) (s : State) : Frame s (setReg r v s) := by
  cases r <;> exact { Frame.refl s with }

theorem frame_setPair (p : Pair) (v : Word) (s : State) : Frame s (setPair p v s) := by
  cases p <;> exact { Frame.refl s with }

theorem readsLeft_suffix (s : State) (x : Word) : readsLeft s x <:+ s.bpReads := by
  unfold readsLeft
  split
  · exact List.tail_suffix _
  · exact List.suffix_refl _

theorem memWrite_frame (x : Word) (v : Byte) (s : State) : Ensures (memWrite x v s) (Frame s) := by
  intro t h
  obtain ⟨-, -, rfl⟩ := memWrite_eq_next.1 h
  exact { Frame.refl s with trace := List.suffix_append _ _, bpReads := readsLeft_suffix s x }

theorem push16_frame (v : Word) (s : State) : Ensures (push16 v s) (Frame s) :=
  (memWrite_frame _ _ s).andThen fun u hu => (memWrite_frame _ _ u).andThen fun _ hw =>
    ensures_next { hu.trans hw with }

theorem pop16_frame (s : State) : Ensures (pop16 s) fun r => Frame s r.2 :=
  ensures_andThen fun _ => ensures_andThen fun _ => ensures_next { Frame.refl s with }

theorem callTo_frame (ret target : Word) (s : State) : Ensures (callTo ret target s) (Frame s) :=
  (push16_frame ret s).andThen fun _ hu => ensures_next (hu.jumpTo target)

theorem returnTo_frame (s : State) : Ensures (returnTo s) (Frame s) :=
  (pop16_frame s).andThen fun r hr => ensures_next (hr.jumpTo r.1)

theorem writeOperand_frame (dst : Operand8) (v : Byte) (s : State) : Ensures (writeOperand dst v s) (Frame s) := by
  cases dst with
  | reg r => exact ensures_next (frame_setReg r v s)
  | m => exact memWrite_frame _ v s

theorem fallback_frame (op : Byte) (s : State) : Ensures (fallback op s) (Frame s) :=
  ensures_next ((frame_emit _ s).advance _)

/-- What a row's own rule and every step within the frame satisfy, its dispatch satisfies (R111). -/
theorem ensures_dispatch {op : Byte} {rule : State → Host.Outcome State Fault Refusal} {Q : State → Prop}
    (hrule : implemented s.cfg op = true → Ensures (rule s) Q) (hframe : ∀ t, Frame s t → Q t) :
    Ensures (dispatch op rule s) Q := by
  intro t h
  rcases dispatch_cases h with ⟨hi, h⟩ | ⟨-, h⟩
  · exact hrule hi t h
  · exact hframe t (fallback_frame op s t h)

/-! ### The rules of the rows that write no flag -/

theorem movRule_frame (dst src : Operand8) (s : State) : Ensures (movRule dst src s) (Frame s) :=
  ensures_andThen fun v => (writeOperand_frame dst v s).andThen fun _ hu => ensures_next (hu.advance _)

theorem mviRule_frame (dst : Operand8) (d8 : Byte) (s : State) : Ensures (mviRule dst d8 s) (Frame s) :=
  (writeOperand_frame dst d8 s).andThen fun _ hu => ensures_next (hu.advance _)

theorem lxiRule_frame (p : Pair) (d16 : Word) (s : State) : Ensures (lxiRule p d16 s) (Frame s) :=
  ensures_next ((frame_setPair p d16 s).advance _)

theorem ldaRule_frame (a16 : Word) (s : State) : Ensures (ldaRule a16 s) (Frame s) :=
  ensures_andThen fun _ => ensures_next { Frame.refl s with }

theorem staRule_frame (a16 : Word) (s : State) : Ensures (staRule a16 s) (Frame s) :=
  (memWrite_frame a16 s.a s).andThen fun _ hu => ensures_next (hu.advance _)

theorem lhldRule_frame (a16 : Word) (s : State) : Ensures (lhldRule a16 s) (Frame s) :=
  ensures_andThen fun _ => ensures_andThen fun _ => ensures_next { Frame.refl s with }

theorem shldRule_frame (a16 : Word) (s : State) : Ensures (shldRule a16 s) (Frame s) :=
  (memWrite_frame a16 s.l s).andThen fun u hu => (memWrite_frame _ s.h u).andThen fun _ hw =>
    ensures_next ((hu.trans hw).advance _)

theorem ldaxRule_frame (p : IndexPair) (s : State) : Ensures (ldaxRule p s) (Frame s) :=
  ensures_andThen fun _ => ensures_next { Frame.refl s with }

theorem staxRule_frame (p : IndexPair) (s : State) : Ensures (staxRule p s) (Frame s) :=
  (memWrite_frame _ s.a s).andThen fun _ hu => ensures_next (hu.advance _)

theorem xchgRule_frame (s : State) : Ensures (xchgRule s) (Frame s) := ensures_next { Frame.refl s with }

theorem inxRule_frame (p : Pair) (s : State) : Ensures (inxRule p s) (Frame s) :=
  ensures_next ((frame_setPair p _ s).advance _)

theorem dcxRule_frame (p : Pair) (s : State) : Ensures (dcxRule p s) (Frame s) :=
  ensures_next ((frame_setPair p _ s).advance _)

theorem cmaRule_frame (s : State) : Ensures (cmaRule s) (Frame s) := ensures_next { Frame.refl s with }

theorem jmpRule_frame (a16 : Word) (s : State) : Ensures (jmpRule a16 s) (Frame s) :=
  ensures_next ((Frame.refl s).jumpTo a16)

theorem pchlRule_frame (s : State) : Ensures (pchlRule s) (Frame s) := ensures_next ((Frame.refl s).jumpTo _)

theorem jccRule_frame (k : Cond) (a16 : Word) (s : State) : Ensures (jccRule k a16 s) (Frame s) := by
  unfold jccRule
  split
  · exact ensures_next ((Frame.refl s).jumpTo a16)
  · exact ensures_next ((Frame.refl s).advance _)

theorem cccRule_frame (k : Cond) (a16 : Word) (s : State) : Ensures (cccRule k a16 s) (Frame s) := by
  unfold cccRule
  split
  · exact callTo_frame _ a16 s
  · exact ensures_next ((Frame.refl s).advance _)

theorem rccRule_frame (k : Cond) (s : State) : Ensures (rccRule k s) (Frame s) := by
  unfold rccRule
  split
  · exact returnTo_frame s
  · exact ensures_next ((Frame.refl s).advance _)

theorem consoleString_frame (left : Nat) (x : Word) (s : State) : Ensures (consoleString left x s) (Frame s) := by
  induction left generalizing x s with
  | zero => exact ensures_refuse
  | succ left ih =>
    refine ensures_andThen fun ch => ?_
    split
    · exact ensures_next (Frame.refl s)
    · exact (ih _ _).mono fun _ hu => (frame_emit _ s).trans hu

theorem diagConsole_frame (s : State) : Ensures (diagConsole s) (Frame s) := by
  unfold diagConsole
  split
  · exact consoleString_frame _ _ s
  · exact ensures_next (frame_emit _ s)

/-- CALL keeps the frame, but for the diagnostic exit, which changes RUN alone (R231). -/
theorem callRule_frame (a16 : Word) (s : State) : Ensures (callRule a16 s) fun t =>
    Frame s t ∨ (a16 = 0 ∧ s.cfg.diagEnabled = true ∧ t = { s with run := .exited }) := by
  unfold callRule
  split
  next hexit =>
    obtain ⟨hd, ha⟩ : s.cfg.diagEnabled = true ∧ a16 = 0 := by simpa using hexit
    exact ensures_next (.inr ⟨ha, hd, rfl⟩)
  · split
    · exact (diagConsole_frame s).andThen fun _ hu => ensures_next (.inl (hu.advance _))
    · exact (callTo_frame _ a16 s).mono fun _ hu => .inl hu

theorem pushRule_frame (p : StackPair) (s : State) : Ensures (pushRule p s) (Frame s) :=
  (push16_frame _ s).andThen fun _ hu => ensures_next (hu.advance _)

theorem pushPswRule_frame (s : State) : Ensures (pushPswRule s) (Frame s) :=
  (push16_frame _ s).andThen fun _ hu => ensures_next (hu.advance _)

theorem popRule_frame (p : StackPair) (s : State) : Ensures (popRule p s) (Frame s) :=
  (pop16_frame s).andThen fun _ hr => ensures_next ((hr.trans (frame_setPair _ _ _)).advance _)

theorem xthlRule_frame (s : State) : Ensures (xthlRule s) (Frame s) :=
  ensures_andThen fun _ => ensures_andThen fun _ => (memWrite_frame _ s.l s).andThen fun u hu =>
    (memWrite_frame _ s.h u).andThen fun _ hw => ensures_next { hu.trans hw with }

theorem sphlRule_frame (s : State) : Ensures (sphlRule s) (Frame s) := ensures_next { Frame.refl s with }

theorem frame_hostAnswer (s : State) : Frame s (hostAnswer s).2 := by
  unfold hostAnswer
  split <;> exact { Frame.refl s with }

theorem inRule_frame (p8 : Byte) (s : State) : Ensures (inRule p8 s) (Frame s) := by
  unfold inRule
  split
  · exact ensures_next { (frame_hostAnswer s).trans (frame_emit (.ioIn p8 (hostAnswer s).1) _) with }
  · exact ensures_next { Frame.refl s with }

theorem outRule_frame (p8 : Byte) (s : State) : Ensures (outRule p8 s) (Frame s) := by
  unfold outRule
  split
  · exact ensures_next ((frame_emit _ s).advance _)
  · exact ensures_next ((Frame.refl s).advance _)

theorem diRule_frame (s : State) : Ensures (diRule s) (Frame s) := ensures_next ((Frame.refl s).advance _)

theorem nopRule_frame (s : State) : Ensures (nopRule s) (Frame s) := ensures_next ((Frame.refl s).advance _)

/-- EI keeps the frame but for IE, which it sets (R262). -/
theorem eiRule_frame (s : State) : Ensures (eiRule s) (Frame { s with ie := true }) :=
  ensures_next ((Frame.refl { s with ie := true }).advance _)

/-! ### The rules of the rows that write a flag (R43) -/

/-- The frame but for the flags, of which AC is kept (R40). -/
structure FlagFrame (s t : State) : Prop where
  frame : Frame { s with flags := t.flags } t
  ac : t.flags.ac = s.flags.ac

/-- An update of A and of the flags other than AC, then the end of the step. -/
theorem flagFrame_result (n : InstrLen) (x : Byte) {f : Flags} (hac : f.ac = s.flags.ac) :
    FlagFrame s (advance n { s with a := x, flags := f }) :=
  ⟨{ Frame.refl { s with flags := f } with }, hac⟩

theorem flagFrame_writeResult (n : InstrLen) (r : Byte × Bool) (s : State) :
    FlagFrame s (advance n (writeResult r s)) := flagFrame_result n r.1 rfl

theorem flagFrame_cmpRule (n : InstrLen) (v : Byte) (s : State) : FlagFrame s (advance n (cmpRule v s)) :=
  flagFrame_result n s.a rfl

theorem operandRule_flagFrame {rule : Byte → State → State} (src : Operand8)
    (hr : ∀ v, FlagFrame s (advance .one (rule v s))) : Ensures (operandRule rule src s) (FlagFrame s) :=
  ensures_andThen fun v => ensures_next (hr v)

theorem immediateRule_flagFrame {rule : Byte → State → State} (d8 : Byte)
    (hr : ∀ v, FlagFrame s (advance .two (rule v s))) : Ensures (immediateRule rule d8 s) (FlagFrame s) :=
  ensures_next (hr d8)

theorem daaRule_flagFrame (s : State) : Ensures (daaRule s) (FlagFrame s) :=
  ensures_next (flagFrame_writeResult _ _ s)

/-- What INR and DCR leave: the frame but for Z, S and P (R159 to R162). -/
structure ZspFrame (s t : State) : Prop extends FlagFrame s t where
  carry : t.flags.cy = s.flags.cy

/-- What DAD, the rotates, STC and CMC leave: the frame but for CY (R165, R189 to R195). -/
structure CarryFrame (s t : State) : Prop extends FlagFrame s t where
  zero : t.flags.z = s.flags.z
  sign : t.flags.s = s.flags.s
  parity : t.flags.p = s.flags.p

theorem Frame.zspFrame (h : Frame s t) : ZspFrame s t :=
  ⟨⟨{ h with flags := rfl }, congrArg Flags.ac h.flags⟩, congrArg Flags.cy h.flags⟩

theorem Frame.carryFrame (h : Frame s t) : CarryFrame s t :=
  ⟨⟨{ h with flags := rfl }, congrArg Flags.ac h.flags⟩, congrArg Flags.z h.flags, congrArg Flags.s h.flags,
    congrArg Flags.p h.flags⟩

theorem Frame.zspFrame_setZSP (h : Frame s t) (n : InstrLen) (x : Byte) :
    ZspFrame s (Machine.advance n { t with flags := setZSP x t.flags }) :=
  ⟨⟨{ h with flags := rfl }, h.zspFrame.ac⟩, h.zspFrame.carry⟩

theorem Frame.carryFrame_setCarry (h : Frame s t) (n : InstrLen) (c : Bool) :
    CarryFrame s (Machine.advance n { t with flags := { t.flags with cy := c } }) :=
  ⟨⟨{ h with flags := rfl }, h.carryFrame.ac⟩, h.carryFrame.zero, h.carryFrame.sign, h.carryFrame.parity⟩

theorem inrRule_zspFrame (dst : Operand8) (s : State) : Ensures (inrRule dst s) (ZspFrame s) :=
  ensures_andThen fun x => (writeOperand_frame dst (x + 1) s).andThen fun _ hu => ensures_next (hu.zspFrame_setZSP _ _)

theorem dcrRule_zspFrame (dst : Operand8) (s : State) : Ensures (dcrRule dst s) (ZspFrame s) :=
  ensures_andThen fun x => (writeOperand_frame dst (x - 1) s).andThen fun _ hu => ensures_next (hu.zspFrame_setZSP _ _)

theorem dadRule_carryFrame (p : Pair) (s : State) : Ensures (dadRule p s) (CarryFrame s) :=
  ensures_next ((frame_setPair .hl _ s).carryFrame_setCarry _ _)

theorem rotateRule_carryFrame (r : Byte × Bool) (s : State) : Ensures (rotateRule r s) (CarryFrame s) :=
  ensures_next ((frame_setReg .a r.1 s).carryFrame_setCarry _ _)

theorem cmcRule_carryFrame (s : State) : Ensures (cmcRule s) (CarryFrame s) :=
  ensures_next ((Frame.refl s).carryFrame_setCarry _ _)

theorem stcRule_carryFrame (s : State) : Ensures (stcRule s) (CarryFrame s) :=
  ensures_next ((Frame.refl s).carryFrame_setCarry _ _)

/-- POP PSW keeps the frame but for the flags, AC among them (R243). -/
theorem popPswRule_frame (s : State) : Ensures (popPswRule s) fun t => Frame { s with flags := t.flags } t :=
  (pop16_frame s).andThen fun _ hr => ensures_next { hr with flags := rfl }

end Sys2Proof.Machine
end

section
/-! What an instruction that answers a next state leaves of the flags, IE, RUN, the engine state and the configuration
(R39 to R51): one theorem over the rows, and the three statements read off it. -/

open Sys2Proof.Claims

namespace Sys2Proof.Machine

/-- All that the instruction `i` from `s` to `t` can do to the fields of `Frame`. -/
inductive Effect (i : Instr) (s t : State) : Prop
  /-- Nothing. -/
  | frame (h : Frame s t)
  /-- A row of R43 writes flags, AC among them for POP PSW alone. -/
  | flags (hw : WritesFlags i) (hac : i ≠ .popPsw → t.flags.ac = s.flags.ac) (h : Frame { s with flags := t.flags } t)
  /-- An EI in IMPL_SET sets IE. -/
  | ei (hi : i = .ei) (h : Frame { s with ie := true } t)
  /-- The diagnostic exit ends the run (R231). -/
  | exits (hi : i = .call 0) (hd : s.cfg.diagEnabled = true) (ht : t = { s with run := .exited })

variable {i : Instr} {s t : State} {rule : State → Host.Outcome State Fault Refusal}

theorem FlagFrame.effect (h : FlagFrame s t) (hw : WritesFlags i) : Effect i s t := .flags hw (fun _ => h.ac) h.frame

theorem writesFlags_aluForm (op : AluOp) (src : Operand8) : WritesFlags (aluForm op src) := .inl ⟨op, src, rfl⟩

theorem writesFlags_aluImmForm (op : AluOp) (d8 : Byte) : WritesFlags (aluImmForm op d8) := .inr (.inl ⟨op, d8, rfl⟩)

theorem writesFlags_inrForm (dst : Reg8) : WritesFlags (inrForm dst) := .inr (.inr (.inl ⟨dst, rfl⟩))

theorem writesFlags_dcrForm (dst : Reg8) : WritesFlags (dcrForm dst) := .inr (.inr (.inr (.inl ⟨dst, rfl⟩)))

theorem writesFlags_dadForm (p : Pair) : WritesFlags (dadForm p) := .inr (.inr (.inr (.inr (.inl ⟨p, rfl⟩))))

theorem writesFlags_of_mem (h : i ∈ [.inrM, .dcrM, .daa, .rlc, .rrc, .ral, .rar, .stc, .cmc, .popPsw]) :
    WritesFlags i := .inr (.inr (.inr (.inr (.inr h))))

/-- Every row's rule, by the families of R43, R262 and R231. -/
theorem HasRule.effect (hr : HasRule rule i) (s : State) : Ensures (rule s) (Effect i s) := by
  cases hr with
  | mov | movFromM | movToM => exact (movRule_frame _ _ s).mono fun _ => .frame
  | add src hi | adc src hi | sub src hi | sbb src hi | ana src hi | xra src hi | ora src hi =>
    exact (operandRule_flagFrame src fun _ => flagFrame_writeResult _ _ s).mono fun _ h =>
      h.effect (hi ▸ writesFlags_aluForm _ src)
  | cmp src hi =>
    exact (operandRule_flagFrame src fun v => flagFrame_cmpRule _ v s).mono fun _ h =>
      h.effect (hi ▸ writesFlags_aluForm _ src)
  | adi d8 hi | aci d8 hi | sui d8 hi | sbi d8 hi | ani d8 hi | xri d8 hi | ori d8 hi =>
    exact (immediateRule_flagFrame d8 fun _ => flagFrame_writeResult _ _ s).mono fun _ h =>
      h.effect (hi ▸ writesFlags_aluImmForm _ d8)
  | cpi d8 hi =>
    exact (immediateRule_flagFrame d8 fun v => flagFrame_cmpRule _ v s).mono fun _ h =>
      h.effect (hi ▸ writesFlags_aluImmForm _ d8)
  | inr dst hi =>
    exact (inrRule_zspFrame _ s).mono fun _ h => h.toFlagFrame.effect (hi ▸ writesFlags_inrForm dst)
  | dcr dst hi =>
    exact (dcrRule_zspFrame _ s).mono fun _ h => h.toFlagFrame.effect (hi ▸ writesFlags_dcrForm dst)
  | inrM => exact (inrRule_zspFrame _ s).mono fun _ h => h.toFlagFrame.effect (writesFlags_of_mem (by decide))
  | dcrM => exact (dcrRule_zspFrame _ s).mono fun _ h => h.toFlagFrame.effect (writesFlags_of_mem (by decide))
  | inx p => exact (inxRule_frame p s).mono fun _ => .frame
  | dcx p => exact (dcxRule_frame p s).mono fun _ => .frame
  | dad p hi => exact (dadRule_carryFrame p s).mono fun _ h => h.toFlagFrame.effect (hi ▸ writesFlags_dadForm p)
  | daa => exact (daaRule_flagFrame s).mono fun _ h => h.effect (writesFlags_of_mem (by decide))
  | rlc | rrc | ral | rar =>
    exact (rotateRule_carryFrame _ s).mono fun _ h => h.toFlagFrame.effect (writesFlags_of_mem (by decide))
  | cma => exact (cmaRule_frame s).mono fun _ => .frame
  | cmc => exact (cmcRule_carryFrame s).mono fun _ h => h.toFlagFrame.effect (writesFlags_of_mem (by decide))
  | stc => exact (stcRule_carryFrame s).mono fun _ h => h.toFlagFrame.effect (writesFlags_of_mem (by decide))
  | mvi | mviM => exact (mviRule_frame _ _ s).mono fun _ => .frame
  | lxi p d16 => exact (lxiRule_frame p d16 s).mono fun _ => .frame
  | lda a16 => exact (ldaRule_frame a16 s).mono fun _ => .frame
  | sta a16 => exact (staRule_frame a16 s).mono fun _ => .frame
  | lhld a16 => exact (lhldRule_frame a16 s).mono fun _ => .frame
  | shld a16 => exact (shldRule_frame a16 s).mono fun _ => .frame
  | ldax p => exact (ldaxRule_frame p s).mono fun _ => .frame
  | stax p => exact (staxRule_frame p s).mono fun _ => .frame
  | xchg => exact (xchgRule_frame s).mono fun _ => .frame
  | jmp a16 => exact (jmpRule_frame a16 s).mono fun _ => .frame
  | jcc k a16 => exact (jccRule_frame k a16 s).mono fun _ => .frame
  | call a16 =>
    refine (callRule_frame a16 s).mono fun t h => ?_
    rcases h with h | ⟨rfl, hd, ht⟩
    · exact .frame h
    · exact .exits rfl hd ht
  | callAlias a16 => exact (callTo_frame _ a16 s).mono fun _ => .frame
  | ccc k a16 => exact (cccRule_frame k a16 s).mono fun _ => .frame
  | ret => exact (returnTo_frame s).mono fun _ => .frame
  | rcc k => exact (rccRule_frame k s).mono fun _ => .frame
  | rst n => exact (callTo_frame _ _ s).mono fun _ => .frame
  | pchl => exact (pchlRule_frame s).mono fun _ => .frame
  | push p => exact (pushRule_frame p s).mono fun _ => .frame
  | pushPsw => exact (pushPswRule_frame s).mono fun _ => .frame
  | pop p => exact (popRule_frame p s).mono fun _ => .frame
  | popPsw =>
    exact (popPswRule_frame s).mono fun _ h => .flags (writesFlags_of_mem (by decide)) (fun hne => absurd rfl hne) h
  | xthl => exact (xthlRule_frame s).mono fun _ => .frame
  | sphl => exact (sphlRule_frame s).mono fun _ => .frame
  | inPort p8 => exact (inRule_frame p8 s).mono fun _ => .frame
  | outPort p8 => exact (outRule_frame p8 s).mono fun _ => .frame
  | ei => exact (eiRule_frame s).mono fun _ => .ei rfl
  | di => exact (diRule_frame s).mono fun _ => .frame
  | hlt => exact ensures_refuse
  | nop => exact (nopRule_frame s).mono fun _ => .frame

/-- Every instruction, its fallback (R272) among the cases that keep the frame. -/
theorem exec_effect (i : Instr) (s : State) : Ensures (exec i s) (Effect i s) := by
  obtain ⟨rule, hr, he⟩ := exec_eq_dispatch i
  rw [he]
  exact ensures_dispatch (fun _ => hr.effect s) fun _ => .frame

theorem Effect.flags_eq (h : Effect i s t) (hw : ¬ WritesFlags i) : t.flags = s.flags := by
  cases h with
  | frame h => exact h.flags
  | flags hw' => exact absurd hw' hw
  | ei hi h => exact h.flags
  | exits hi hd ht => rw [ht]

theorem Effect.ac_eq (h : Effect i s t) (hp : i ≠ .popPsw) : t.flags.ac = s.flags.ac := by
  cases h with
  | frame h => exact congrArg Flags.ac h.flags
  | flags hw hac => exact hac hp
  | ei hi h => exact congrArg Flags.ac h.flags
  | exits hi hd ht => rw [ht]

theorem Effect.ie_eq (h : Effect i s t) (hei : i ≠ .ei) : t.ie = s.ie := by
  cases h with
  | frame h => exact h.ie
  | flags hw hac h => exact h.ie
  | ei hi => exact absurd hi hei
  | exits hi hd ht => rw [ht]

theorem Effect.run_cases (h : Effect i s t) :
    t.run = s.run ∨ (t.run = .exited ∧ i = .call 0 ∧ s.cfg.diagEnabled = true) := by
  cases h with
  | frame h => exact .inl h.run
  | flags hw hac h => exact .inl h.run
  | ei hi h => exact .inl h.run
  | exits hi hd ht => exact .inr ⟨by rw [ht], hi, hd⟩

/-- Whatever an instruction does to the flags, IE and RUN, it keeps the rest of the frame. -/
theorem Effect.frame_apart (h : Effect i s t) : Frame { s with flags := t.flags, ie := t.ie, run := t.run } t := by
  cases h with
  | frame h | flags hw hac h | ei hi h => exact { h with flags := rfl, ie := rfl, run := rfl }
  | exits hi hd ht => subst ht; exact Frame.refl _

/-- A row whose rule writes Z, S and P alone does so, or falls back and writes no flag. -/
theorem dispatch_zspFrame {op : Byte} (hr : Ensures (rule s) (ZspFrame s)) :
    Ensures (dispatch op rule s) (ZspFrame s) :=
  ensures_dispatch (fun _ => hr) fun _ => Frame.zspFrame

/-- A row whose rule writes CY alone does so, or falls back and writes no flag. -/
theorem dispatch_carryFrame {op : Byte} (hr : Ensures (rule s) (CarryFrame s)) :
    Ensures (dispatch op rule s) (CarryFrame s) :=
  ensures_dispatch (fun _ => hr) fun _ => Frame.carryFrame

theorem exec_zspFrame (hi : (∃ r, i = inrForm r ∨ i = dcrForm r) ∨ i = .inrM ∨ i = .dcrM) :
    Ensures (exec i s) (ZspFrame s) := by
  rcases hi with ⟨r, rfl | rfl⟩ | rfl | rfl
  · cases r <;> exact dispatch_zspFrame (inrRule_zspFrame _ s)
  · cases r <;> exact dispatch_zspFrame (dcrRule_zspFrame _ s)
  · exact dispatch_zspFrame (inrRule_zspFrame .m s)
  · exact dispatch_zspFrame (dcrRule_zspFrame .m s)

theorem exec_carryFrame (hi : (∃ p, i = dadForm p) ∨ i ∈ [.rlc, .rrc, .ral, .rar, .stc, .cmc]) :
    Ensures (exec i s) (CarryFrame s) := by
  simp only [List.mem_cons, List.not_mem_nil, or_false] at hi
  rcases hi with ⟨p, rfl⟩ | rfl | rfl | rfl | rfl | rfl | rfl
  · cases p <;> exact dispatch_carryFrame (dadRule_carryFrame _ s)
  · exact dispatch_carryFrame (rotateRule_carryFrame (rlc8 s.a) s)
  · exact dispatch_carryFrame (rotateRule_carryFrame (rrc8 s.a) s)
  · exact dispatch_carryFrame (rotateRule_carryFrame (ral8 s.a s.flags.cy) s)
  · exact dispatch_carryFrame (rotateRule_carryFrame (rar8 s.a s.flags.cy) s)
  · exact dispatch_carryFrame (stcRule_carryFrame s)
  · exact dispatch_carryFrame (cmcRule_carryFrame s)

/-- Settles O57: the first two clauses by the effect of a row, the last two by the rules of the rows they name. -/
theorem onlyListedInstructionsWriteFlags : Obligations.OnlyListedInstructionsWriteFlags := by
  intro i s t h
  have heff := exec_effect i s t h
  refine ⟨heff.flags_eq, heff.ac_eq, fun hi => (exec_zspFrame hi t h).carry, fun hi => ?_⟩
  have hc := exec_carryFrame hi t h
  exact ⟨hc.zero, hc.sign, hc.parity⟩

/-- EI sets IE inside IMPL_SET, and its fallback leaves it (R262, R272). -/
theorem exec_ei_ie (h : exec .ei s = .next t) : t.ie = (s.ie || implemented s.cfg 0xFB) := by
  rcases dispatch_cases (op := 0xFB) (rule := eiRule) h with ⟨himp, h⟩ | ⟨himp, h⟩
  · rw [(eiRule_frame s t h).ie, himp, Bool.or_true]
  · rw [(fallback_frame _ s t h).ie, himp, Bool.or_false]

/-- Settles O58: EI by its own rule, every other instruction by its effect. -/
theorem onlyEiChangesIe : Obligations.OnlyEiChangesIe := by
  intro i s t h
  by_cases hei : i = .ei
  · subst hei
    simpa using exec_ei_ie h
  · simpa [hei] using (exec_effect i s t h).ie_eq hei

/-- Settles O59: every effect of a row is within the frame apart from the flags, IE and RUN, and RUN moves only in the
diagnostic exit. -/
theorem instructionsLeaveEngineState : Obligations.InstructionsLeaveEngineState := by
  intro i s t h
  have heff := exec_effect i s t h
  have hf := heff.frame_apart
  obtain ⟨events, he⟩ := hf.trace
  exact ⟨hf.nsteps, hf.bpWrite, hf.bpOpcode, hf.cbIn, hf.cbOut, hf.cbBkpt, hf.cfg, hf.hostCalls, ⟨events, he.symm⟩,
    hf.bpReads, heff.run_cases⟩

end Sys2Proof.Machine
end

section
/-! What a transaction does to the storage (R77, R78): admitted writes of single bytes, one after another, and nothing
else; and the two facts that every admitted write keeps, protected ROM and the invariant of the plain data. -/

namespace Sys2Proof.Machine

/-- One admitted write under the configuration `g`: a byte stored below TOTAL and outside protected ROM (R77, R78). -/
def StoreStep (g : MachineConfig) (m n : Memory) : Prop :=
  ∃ i v, i < totalSize g ∧ (g.romSize ≤ i ∨ g.romWriteable = true) ∧ n = writeByte g.sentinel m i v

/-- From `s` to `t` the storage changes by admitted writes alone; the configuration and the breakpoint sets are kept. -/
structure AdmittedWrites (s t : State) : Prop where
  cfg : t.cfg = s.cfg
  bpWrite : t.bpWrite = s.bpWrite
  bpOpcode : t.bpOpcode = s.bpOpcode
  store : Relation.ReflTransGen (StoreStep s.cfg) s.store t.store

variable {s t u : State} {i : Instr} {rule : State → Host.Outcome State Fault Refusal}

theorem AdmittedWrites.refl (s : State) : AdmittedWrites s s := ⟨rfl, rfl, rfl, .refl⟩

theorem AdmittedWrites.trans (h : AdmittedWrites s t) (h' : AdmittedWrites t u) : AdmittedWrites s u where
  cfg := h'.cfg.trans h.cfg
  bpWrite := h'.bpWrite.trans h.bpWrite
  bpOpcode := h'.bpOpcode.trans h.bpOpcode
  store := h.store.trans (h.cfg ▸ h'.store)

theorem AdmittedWrites.advance (h : AdmittedWrites s t) (n : InstrLen) : AdmittedWrites s (advance n t) := { h with }

theorem AdmittedWrites.jumpTo (h : AdmittedWrites s t) (x : Word) : AdmittedWrites s (jumpTo x t) := { h with }

/-! ### What an admitted write keeps -/

/-- R78: an admitted write leaves every byte of protected ROM. -/
theorem StoreStep.readByte_rom {g : MachineConfig} {m n : Memory} (h : StoreStep g m n) (hw : g.romWriteable = false)
    {j : Nat} (hj : j < g.romSize) : readByte g.sentinel n j = readByte g.sentinel m j := by
  obtain ⟨k, v, -, hrom, rfl⟩ := h
  have hne : j ≠ k := by
    rcases hrom with hrom | hrom
    · omega
    · exact absurd (hw.symm.trans hrom) Bool.false_ne_true
  rw [readByte_writeByte, if_neg hne]

theorem readByte_rom_of_storeSteps {g : MachineConfig} {m n : Memory} (h : Relation.ReflTransGen (StoreStep g) m n)
    (hw : g.romWriteable = false) {j : Nat} (hj : j < g.romSize) :
    readByte g.sentinel n j = readByte g.sentinel m j := by
  induction h with
  | refl => rfl
  | tail _ hstep ih => exact (hstep.readByte_rom hw hj).trans ih

theorem AdmittedWrites.readByte_rom (h : AdmittedWrites s t) (hw : s.cfg.romWriteable = false) {j : Nat}
    (hj : j < s.cfg.romSize) : readByte t.cfg.sentinel t.store j = readByte s.cfg.sentinel s.store j := by
  rw [h.cfg]
  exact readByte_rom_of_storeSteps h.store hw hj

/-- An admitted write keeps the canonical form and stays below TOTAL (R50). -/
theorem StoreStep.keeps_canonical {g : MachineConfig} {m n : Memory} (h : StoreStep g m n)
    (hm : Memory.wf g.sentinel m = true ∧ Memory.within (totalSize g) m = true) :
    Memory.wf g.sentinel n = true ∧ Memory.within (totalSize g) n = true := by
  obtain ⟨k, v, hk, -, rfl⟩ := h
  exact ⟨writeByte_wf hm.1, writeByte_within hm.2 hk⟩

theorem canonical_of_storeSteps {g : MachineConfig} {m n : Memory} (h : Relation.ReflTransGen (StoreStep g) m n)
    (hm : Memory.wf g.sentinel m = true ∧ Memory.within (totalSize g) m = true) :
    Memory.wf g.sentinel n = true ∧ Memory.within (totalSize g) n = true := by
  induction h with
  | refl => exact hm
  | tail _ hstep ih => exact hstep.keeps_canonical ih

theorem AdmittedWrites.inv (h : AdmittedWrites s t) (hs : Inv s) : Inv t := by
  obtain ⟨hwf, hin⟩ := canonical_of_storeSteps h.store ⟨hs.canonical, hs.within⟩
  exact {
    config := h.cfg ▸ hs.config
    canonical := h.cfg ▸ hwf
    within := h.cfg ▸ hin
    writeSet := h.bpWrite ▸ hs.writeSet
    opcodeSet := h.bpOpcode ▸ hs.opcodeSet }

/-! ### The shared operations -/

theorem writes_setReg (r : Reg8) (v : Byte) (s : State) : AdmittedWrites s (setReg r v s) := by
  cases r <;> exact { AdmittedWrites.refl s with }

theorem writes_setPair (p : Pair) (v : Word) (s : State) : AdmittedWrites s (setPair p v s) := by
  cases p <;> exact { AdmittedWrites.refl s with }

theorem storeByte_writes (x : Word) (v : Byte) (s : State) : Ensures (storeByte x v s) (AdmittedWrites s) := by
  intro t h
  obtain ⟨⟨hbelow, hrom⟩, rfl⟩ := storeByte_eq_next.1 h
  exact { AdmittedWrites.refl s with store := .single ⟨_, v, hbelow, hrom, rfl⟩ }

theorem memWrite_writes (x : Word) (v : Byte) (s : State) : Ensures (memWrite x v s) (AdmittedWrites s) := by
  intro t h
  obtain ⟨-, ⟨hbelow, hrom⟩, rfl⟩ := memWrite_eq_next.1 h
  exact { AdmittedWrites.refl s with store := .single ⟨_, v, hbelow, hrom, rfl⟩ }

theorem push16_writes (v : Word) (s : State) : Ensures (push16 v s) (AdmittedWrites s) :=
  (memWrite_writes _ _ s).andThen fun u hu => (memWrite_writes _ _ u).andThen fun _ hw =>
    ensures_next { hu.trans hw with }

theorem pop16_writes (s : State) : Ensures (pop16 s) fun r => AdmittedWrites s r.2 :=
  ensures_andThen fun _ => ensures_andThen fun _ => ensures_next { AdmittedWrites.refl s with }

theorem callTo_writes (ret target : Word) (s : State) : Ensures (callTo ret target s) (AdmittedWrites s) :=
  (push16_writes ret s).andThen fun _ hu => ensures_next (hu.jumpTo target)

theorem returnTo_writes (s : State) : Ensures (returnTo s) (AdmittedWrites s) :=
  (pop16_writes s).andThen fun r hr => ensures_next (hr.jumpTo r.1)

theorem writeOperand_writes (dst : Operand8) (v : Byte) (s : State) :
    Ensures (writeOperand dst v s) (AdmittedWrites s) := by
  cases dst with
  | reg r => exact ensures_next (writes_setReg r v s)
  | m => exact memWrite_writes _ v s

theorem fallback_writes (op : Byte) (s : State) : Ensures (fallback op s) (AdmittedWrites s) :=
  ensures_next { AdmittedWrites.refl s with }

/-! ### The rules -/

theorem movRule_writes (dst src : Operand8) (s : State) : Ensures (movRule dst src s) (AdmittedWrites s) :=
  ensures_andThen fun v => (writeOperand_writes dst v s).andThen fun _ hu => ensures_next (hu.advance _)

theorem mviRule_writes (dst : Operand8) (d8 : Byte) (s : State) : Ensures (mviRule dst d8 s) (AdmittedWrites s) :=
  (writeOperand_writes dst d8 s).andThen fun _ hu => ensures_next (hu.advance _)

theorem operandRule_writes {alu : Byte → State → State} (src : Operand8)
    (ha : ∀ v, AdmittedWrites s (alu v s)) : Ensures (operandRule alu src s) (AdmittedWrites s) :=
  ensures_andThen fun v => ensures_next ((ha v).advance _)

theorem immediateRule_writes {alu : Byte → State → State} (d8 : Byte)
    (ha : AdmittedWrites s (alu d8 s)) : Ensures (immediateRule alu d8 s) (AdmittedWrites s) :=
  ensures_next (ha.advance _)

theorem inrRule_writes (dst : Operand8) (s : State) : Ensures (inrRule dst s) (AdmittedWrites s) :=
  ensures_andThen fun x => (writeOperand_writes dst (x + 1) s).andThen fun _ hu => ensures_next { hu with }

theorem dcrRule_writes (dst : Operand8) (s : State) : Ensures (dcrRule dst s) (AdmittedWrites s) :=
  ensures_andThen fun x => (writeOperand_writes dst (x - 1) s).andThen fun _ hu => ensures_next { hu with }

theorem shldRule_writes (a16 : Word) (s : State) : Ensures (shldRule a16 s) (AdmittedWrites s) :=
  (memWrite_writes a16 s.l s).andThen fun u hu => (memWrite_writes _ s.h u).andThen fun _ hw =>
    ensures_next ((hu.trans hw).advance _)

theorem xthlRule_writes (s : State) : Ensures (xthlRule s) (AdmittedWrites s) :=
  ensures_andThen fun _ => ensures_andThen fun _ => (memWrite_writes _ s.l s).andThen fun u hu =>
    (memWrite_writes _ s.h u).andThen fun _ hw => ensures_next { hu.trans hw with }

theorem jccRule_writes (k : Cond) (a16 : Word) (s : State) : Ensures (jccRule k a16 s) (AdmittedWrites s) := by
  unfold jccRule
  split
  · exact ensures_next ((AdmittedWrites.refl s).jumpTo a16)
  · exact ensures_next ((AdmittedWrites.refl s).advance _)

theorem cccRule_writes (k : Cond) (a16 : Word) (s : State) : Ensures (cccRule k a16 s) (AdmittedWrites s) := by
  unfold cccRule
  split
  · exact callTo_writes _ a16 s
  · exact ensures_next ((AdmittedWrites.refl s).advance _)

theorem rccRule_writes (k : Cond) (s : State) : Ensures (rccRule k s) (AdmittedWrites s) := by
  unfold rccRule
  split
  · exact returnTo_writes s
  · exact ensures_next ((AdmittedWrites.refl s).advance _)

theorem consoleString_writes (left : Nat) (x : Word) (s : State) :
    Ensures (consoleString left x s) (AdmittedWrites s) := by
  induction left generalizing x s with
  | zero => exact ensures_refuse
  | succ left ih =>
    refine ensures_andThen fun ch => ?_
    split
    · exact ensures_next (AdmittedWrites.refl s)
    · exact (ih _ (emit (.console ch) s)).mono fun _ hu => { hu with }

theorem diagConsole_writes (s : State) : Ensures (diagConsole s) (AdmittedWrites s) := by
  unfold diagConsole
  split
  · exact consoleString_writes _ _ s
  · exact ensures_next { AdmittedWrites.refl s with }

theorem callRule_writes (a16 : Word) (s : State) : Ensures (callRule a16 s) (AdmittedWrites s) := by
  unfold callRule
  split
  · exact ensures_next { AdmittedWrites.refl s with }
  · split
    · exact (diagConsole_writes s).andThen fun _ hu => ensures_next (hu.advance _)
    · exact callTo_writes _ a16 s

theorem inRule_writes (p8 : Byte) (s : State) : Ensures (inRule p8 s) (AdmittedWrites s) := by
  have hanswer : AdmittedWrites s (hostAnswer s).2 := by
    unfold hostAnswer
    split <;> exact { AdmittedWrites.refl s with }
  unfold inRule
  split
  · exact ensures_next { hanswer with }
  · exact ensures_next { AdmittedWrites.refl s with }

theorem outRule_writes (p8 : Byte) (s : State) : Ensures (outRule p8 s) (AdmittedWrites s) := by
  unfold outRule
  split <;> exact ensures_next { AdmittedWrites.refl s with }

/-- Every row's rule: it stores through MemWrite, or it leaves the storage. -/
theorem HasRule.writes (hr : HasRule rule i) (s : State) : Ensures (rule s) (AdmittedWrites s) := by
  cases hr with
  | mov | movFromM | movToM => exact movRule_writes _ _ s
  | mvi | mviM => exact mviRule_writes _ _ s
  | add | adc | sub | sbb | ana | xra | ora | cmp =>
    exact operandRule_writes _ fun _ => { AdmittedWrites.refl s with }
  | adi | aci | sui | sbi | ani | xri | ori | cpi =>
    exact immediateRule_writes _ { AdmittedWrites.refl s with }
  | inr | inrM => exact inrRule_writes _ s
  | dcr | dcrM => exact dcrRule_writes _ s
  | inx p | dcx p | lxi p => exact ensures_next ((writes_setPair p _ s).advance _)
  | daa | rlc | rrc | ral | rar | cma | cmc | stc | dad | xchg | jmp | pchl | sphl | ei | di | nop =>
    exact ensures_next { AdmittedWrites.refl s with }
  | lda | ldax => exact ensures_andThen fun _ => ensures_next { AdmittedWrites.refl s with }
  | lhld => exact ensures_andThen fun _ => ensures_andThen fun _ => ensures_next { AdmittedWrites.refl s with }
  | sta | stax => exact (memWrite_writes _ s.a s).andThen fun _ hu => ensures_next (hu.advance _)
  | shld a16 => exact shldRule_writes a16 s
  | jcc k a16 => exact jccRule_writes k a16 s
  | call a16 => exact callRule_writes a16 s
  | callAlias | rst => exact callTo_writes _ _ s
  | ccc k a16 => exact cccRule_writes k a16 s
  | ret => exact returnTo_writes s
  | rcc k => exact rccRule_writes k s
  | push | pushPsw => exact (push16_writes _ s).andThen fun _ hu => ensures_next (hu.advance _)
  | pop p => exact (pop16_writes s).andThen fun _ hr => ensures_next ((hr.trans (writes_setPair _ _ _)).advance _)
  | popPsw => exact (pop16_writes s).andThen fun _ hr => ensures_next { hr with }
  | xthl => exact xthlRule_writes s
  | inPort p8 => exact inRule_writes p8 s
  | outPort p8 => exact outRule_writes p8 s
  | hlt => exact ensures_refuse

/-! ### The transactions -/

theorem exec_writes (i : Instr) (s : State) : Ensures (exec i s) (AdmittedWrites s) := by
  obtain ⟨rule, hr, he⟩ := exec_eq_dispatch i
  intro t h
  rw [he] at h
  rcases dispatch_cases h with ⟨-, h⟩ | ⟨-, h⟩
  · exact hr.writes s t h
  · exact fallback_writes _ s t h

theorem opcodeBreakpoint_writes (s : State) : Ensures (opcodeBreakpoint s) (AdmittedWrites s) := by
  rw [opcodeBreakpoint_eq]
  split
  · intro t h
    obtain ⟨-, rfl⟩ := callbackReads_eq_next.1 h
    exact { AdmittedWrites.refl s with }
  · exact ensures_next (AdmittedWrites.refl s)

theorem instrStep_writes (s : State) : Ensures (instrStep s) (AdmittedWrites s) := by
  unfold instrStep
  split
  · refine ensures_andThen fun i => (exec_writes i (countStep s)).andThen fun u hu => ?_
    exact (opcodeBreakpoint_writes u).mono fun _ ht => { hu.trans ht with }
  · exact ensures_next (AdmittedWrites.refl s)

theorem interrupt_writes (n : Int) (s : State) : Ensures (interrupt n s) (AdmittedWrites s) := by
  unfold interrupt
  split
  · exact ensures_next (AdmittedWrites.refl s)
  · split
    · exact ensures_refuse
    · split
      · exact ensures_next (AdmittedWrites.refl s)
      · exact (callTo_writes _ _ s).andThen fun _ hu => ensures_next { hu with }

/-- Settles O10: a step and an interrupt entry store by admitted writes alone, and none of those is in protected ROM. -/
theorem protectedRomNeverChanges : Obligations.ProtectedRomNeverChanges := by
  rintro s t hw (h | ⟨n, h⟩) j hj
  · exact (instrStep_writes s t h).readByte_rom hw hj
  · exact (interrupt_writes n s t h).readByte_rom hw hj

end Sys2Proof.Machine
end

section
/-! The invariant of the plain data along every transaction, the host's set-up calls among them (R47, R73, R342). -/

namespace Sys2Proof.Machine

variable {s : State}

theorem init_inv (pcStart : Word) (hs : Inv s) : Ensures (init pcStart s) Inv := by
  unfold init
  split
  · exact ensures_next { hs with }
  · exact ensures_refuse

theorem addBreakpoint_inv (k : BreakpointKind) (x : Word) (hs : Inv s) : Inv (addBreakpoint k x s) := by
  cases k with
  | memoryWrite => exact { hs with writeSet := rising_insertAddress hs.writeSet }
  | opcodeReached => exact { hs with opcodeSet := rising_insertAddress hs.opcodeSet }

/-- An empty load stores nothing, and any other is admitted only when it fits below TOTAL (R73). -/
theorem load_inv (bytes : List Byte) (atAddress : Nat) (hs : Inv s) : Ensures (load bytes atAddress s) Inv := by
  unfold load
  split
  next hfits =>
    have hwithin : Memory.within (totalSize s.cfg) (writeBytes s.cfg.sentinel s.store atAddress bytes) = true := by
      cases bytes with
      | nil => exact hs.within
      | cons v rest => exact writeBytes_within hs.within (by simpa using hfits)
    exact ensures_next { hs with canonical := writeBytes_wf hs.canonical, within := hwithin }
  · exact ensures_refuse

theorem hostCall_inv (k : HostCall) (hs : Inv s) : Ensures (hostCall k s) Inv := by
  unfold hostCall
  split
  · exact ensures_next hs
  · cases k with
    | step => exact (instrStep_writes s).mono fun _ h => h.inv hs
    | interrupt n => exact (interrupt_writes n s).mono fun _ h => h.inv hs
    | reset | setCallbackIn | setCallbackOut | setCallbackBreakpoint => exact ensures_next { hs with }
    | init pcStart => exact init_inv pcStart hs
    | addBreakpoint k x => exact ensures_next (addBreakpoint_inv k x hs)
    | load bytes atAddress => exact load_inv bytes atAddress hs
    | write x v => exact (storeByte_writes x v s).mono fun _ h => h.inv hs
    | readMemory x => exact ensures_andThen fun _ => ensures_next hs

/-- A step with no call waiting is the instruction step (notes/assumptions/9.md). -/
theorem step_of_hostCalls_nil (hq : s.hostCalls = []) : step s = instrStep s := by
  simp only [step, nextTransaction, hq]

/-- Settles O55: a step is an instruction step, or a host call on the state without it. -/
theorem stepKeepsInvariant : Obligations.StepKeepsInvariant := by
  intro s t hs h
  cases hq : s.hostCalls with
  | nil =>
    rw [step_of_hostCalls_nil hq] at h
    exact (instrStep_writes s t h).inv hs
  | cons k rest =>
    rw [step_of_hostCalls_cons hq] at h
    exact hostCall_inv k (s := { s with hostCalls := rest }) { hs with } t h

end Sys2Proof.Machine
end

section
/-! The set-up calls (R70, R72, R73, R231, R305). -/

namespace Sys2Proof.Machine

variable {s : State}

/-- A copied block of bytes: each byte at its own index, and every other index as before (R73). -/
theorem readByte_writeBytes (sentinel : Byte) (m : Memory) (i j : Nat) (bytes : List Byte) :
    readByte sentinel (writeBytes sentinel m i bytes) j =
      if i ≤ j ∧ j < i + bytes.length then bytes.getD (j - i) 0 else readByte sentinel m j := by
  induction bytes generalizing m i with
  | nil => rw [if_neg (by simp only [List.length_nil]; omega)]; rfl
  | cons v rest ih =>
    rw [writeBytes, ih, readByte_writeByte, List.length_cons]
    rcases Nat.lt_trichotomy j i with hlt | rfl | hgt
    · rw [if_neg (by omega), if_neg (by omega), if_neg (by omega)]
    · rw [if_neg (by omega), if_pos rfl, if_pos (by omega), Nat.sub_self, List.getD_cons_zero]
    · have hsub : j - i = (j - (i + 1)) + 1 := by omega
      rw [if_neg (by omega : j ≠ i), hsub, List.getD_cons_succ]
      exact if_congr (by omega) rfl rfl

theorem load_of_fits {bytes : List Byte} {atAddress : Nat} (h : atAddress + bytes.length ≤ totalSize s.cfg) :
    load bytes atAddress s = .next { s with store := writeBytes s.cfg.sentinel s.store atAddress bytes } :=
  if_pos (by simp [h])

theorem load_of_not_fits {bytes : List Byte} {atAddress : Nat} (hne : bytes ≠ [])
    (h : totalSize s.cfg < atAddress + bytes.length) :
    load bytes atAddress s = refuse (.loadOutOfBounds atAddress bytes.length) s :=
  if_neg (by simp [hne, h])

/-- Settles O3: configure() empties the list of entries, so that every index reads as SENTINEL, and load() is the copied
block. -/
theorem setUpFillsStorage : Obligations.SetUpFillsStorage := by
  refine ⟨fun s rom ram w m => ?configure, fun s bytes atAddress =>
    ⟨fun hfits => ?copied, fun hne hlong => ?refused⟩⟩
  case configure => exact fun hvalid => ⟨[], if_pos hvalid, fun _ => rfl⟩
  case copied => exact ⟨_, load_of_fits hfits, fun j => readByte_writeBytes _ _ _ j bytes⟩
  case refused => exact load_of_not_fits hne hlong

/-- What R70 and R231 ask of an admitted configuration. -/
theorem bounds_of_valid {g : MachineConfig} (h : g.valid = true) :
    1 ≤ g.romSize + g.ramSize ∧ g.romSize + g.ramSize ≤ 0x10000 ∧
      (g.ramMirrored = true → 1 ≤ g.ramSize) ∧ g.diagVector ≠ 0 := by
  simp only [MachineConfig.valid, Bool.and_eq_true] at h
  obtain ⟨⟨⟨⟨⟨hsize, hmirror⟩, -⟩, -⟩, hvector⟩, -⟩ := h
  simp only [MachineConfig.sizeOk, Bool.and_eq_true, decide_eq_true_eq] at hsize
  refine ⟨hsize.1, hsize.2, fun hm => ?_, ?_⟩
  · simpa [MachineConfig.mirrorOk, hm] using hmirror
  · simpa [MachineConfig.vectorOk] using hvector

/-- Settles O4: each fault named contradicts a bound of an admitted configuration; both calls test the configuration
first. -/
theorem illFormedConfigurationsAreRefused : Obligations.IllFormedConfigurationsAreRefused := by
  refine ⟨fun g hbad => ?notAdmitted, fun s pcStart h => if_neg (ne_true_of_eq_false h),
    fun s rom ram w m h => if_neg (ne_true_of_eq_false h)⟩
  case notAdmitted =>
    refine eq_false_of_ne_true fun hvalid => ?_
    obtain ⟨hlow, hhigh, hmirror, hvector⟩ := bounds_of_valid hvalid
    rcases hbad with h | h | ⟨hm, h⟩ | h
    · omega
    · omega
    · have := hmirror hm; omega
    · exact hvector h

end Sys2Proof.Machine
end

section
/-! The memory map: folding, MemRead and MemWrite, in the words of the statements (R74 to R79). -/

open Sys2Proof.Claims

namespace Sys2Proof.Machine

variable {s : State} {x y : Word} {v : Byte}

/-- Settles O6: the laws of the loop, and an address at or above TOTAL takes at least one period, since it ends below
TOTAL. -/
theorem foldSubtractsRamPeriod : Obligations.FoldSubtractsRamPeriod := by
  refine fun g x => ⟨fun hm => fold_unmirrored hm x, fun hm hr => ?mirrored⟩
  case mirrored =>
    obtain ⟨hlt, hrom, k, hk⟩ := fold_mirrored hm hr x
    refine ⟨hlt, fold_below, fun hx => ⟨hrom hx, k, ?_, hk⟩⟩
    rcases Nat.eq_zero_or_pos k with rfl | hpos
    · omega
    · exact hpos

/-- One period above ROM_SIZE + k is one turn of the loop away from it (R79). -/
theorem fold_of_total_add {g : MachineConfig} {k : Nat} (hm : g.ramMirrored = true) (hk : k < g.ramSize)
    (hx : x.toNat = totalSize g + k) : fold g x = g.romSize + k := by
  have htotal : totalSize g = g.romSize + g.ramSize := rfl
  obtain ⟨turns, hturns⟩ : ∃ turns, x.toNat = turns + 1 := ⟨x.toNat - 1, by omega⟩
  rw [fold, if_pos hm, hturns, foldLoop, if_pos (by omega), foldLoop_below (by omega)]
  omega

/-- Under mirroring every read is admitted (R74, R76). -/
theorem readable_of_mirrored (hm : s.cfg.ramMirrored = true) (hr : 1 ≤ s.cfg.ramSize) (x : Word) : Readable s x :=
  (fold_mirrored hm hr x).1

theorem callbackInBounds_of_mirrored (hm : s.cfg.ramMirrored = true) (hr : 1 ≤ s.cfg.ramSize) (x : Word) :
    CallbackInBounds s x := fun _ r _ => readable_of_mirrored hm hr r

/-- Settles O7: the two addresses fold to one index, which is all that a read and a store look at. -/
theorem mirroredAddressesShareByte : Obligations.MirroredAddressesShareByte := by
  intro s k x y v hm hk hx hy
  have hr : 1 ≤ s.cfg.ramSize := by omega
  have hfold : fold s.cfg x = fold s.cfg y := by
    have hlt : y.toNat < totalSize s.cfg := by rw [hy, totalSize]; omega
    rw [fold_of_total_add hm hk hx, fold_below hlt, hy]
  refine ⟨⟨byteAt s y, ?readX, memRead_of_readable (readable_of_mirrored hm hr y)⟩,
    fun t => ?store, fun t h => ?write⟩
  case readX => rw [memRead_of_readable (readable_of_mirrored hm hr x), byteAt, hfold, byteAt]
  case store => rw [storeByte_eq_next, storeByte_eq_next, Writable, Writable, hfold]
  case write =>
    obtain ⟨-, hw, rfl⟩ := memWrite_eq_next.1 h
    have hwy : Writable s y := by rwa [Writable, hfold] at hw
    rw [memWrite_of_writable (callbackInBounds_of_mirrored hm hr y) hwy, hfold]

/-- Settles O8: MemRead by its two laws, for an index below TOTAL and for one that is not. -/
theorem memReadFollowsRule : Obligations.MemReadFollowsRule :=
  fun _ _ => ⟨memRead_of_readable, fun h => memRead_of_not_readable (Nat.not_lt.2 h)⟩

/-! ### MemWrite by what its callback reads (R77, R321, R335) -/

theorem callbackInBounds_of_callbackFault_none (h : callbackFault x s = none) : CallbackInBounds s x := by
  intro hn r hr
  rw [callbackFault, if_pos hn, firstOutOfBounds, List.find?_eq_none] at h
  simpa [Readable] using h r hr

/-- A callback's read out of bounds ends the write, with the notification made. -/
theorem memWrite_of_callbackFault_some {r : Word} (h : callbackFault x s = some r) :
    memWrite x v s = readFault r (noticed x v s) := by
  unfold callbackFault at h
  split at h
  next hn => exact memWrite_of_callback_fault hn h
  · cases h

/-- A write that is not admitted, in the words of the statements: the notification, then the fault. -/
theorem memWrite_eq_writeFault (hc : callbackFault x s = none) (hw : ¬ Writable s x) :
    memWrite x v s = writeFault x v s :=
  memWrite_of_not_writable (callbackInBounds_of_callbackFault_none hc) hw

/-- The byte at the folded index is the one that a store changes (R77). -/
theorem storesOnly_writeByte (x : Word) (v : Byte) (s : State) :
    StoresOnly x v s (writeByte s.cfg.sentinel s.store (fold s.cfg x) v) := fun j => readByte_writeByte _ _ _ j v

/-- Settles O9: by whether the notified callback reads out of bounds, then by whether the write is admitted. -/
theorem memWriteFollowsRule : Obligations.MemWriteFollowsRule := by
  intro s x v
  unfold WriteThen
  split
  next r hr => exact memWrite_of_callbackFault_some hr
  next hc =>
    refine ⟨fun hw => ⟨_, storesOnly_writeByte x v s, ?_⟩, memWrite_eq_writeFault hc⟩
    exact memWrite_of_writable (callbackInBounds_of_callbackFault_none hc) hw

end Sys2Proof.Machine
end

section
/-! The encoder and the decoder, row by row: the operand bytes of R107, the rows of R108 read in both directions, and the
lengths of R109. -/

open Sys2Proof.Machine

namespace Sys2Proof

/-! ### The two bytes of a word (R107) -/

@[simp] theorem immWord_immLow_immHigh (w : Word) : immWord (immLow w) (immHigh w) = w := concat_highByte_lowByte w

@[simp] theorem immLow_immWord (low high : Byte) : immLow (immWord low high) = low := lowByte_concat high low

@[simp] theorem immHigh_immWord (low high : Byte) : immHigh (immWord low high) = high := highByte_concat high low

/-! ### The rows of the opcode map (R108) -/

/-- A row with a 16-bit operand is read back as soon as it is read with the word its two operand bytes make. -/
theorem eq_of_operand_bytes (row : Word → Instr) (w : Word) {i : Instr} (h : i = row (immWord (immLow w) (immHigh w))) :
    i = row w := h.trans (congrArg row (immWord_immLow_immHigh w))

/-- Row by row, the opcode byte and the operand bytes of an encoding are read as the instruction. An operand byte that
the encoding does not have is 0 here, and the row does not look at it. -/
theorem decodeOp_encode (i : Instr) : decodeOp i.opcode ((encode i).getD 1 0) ((encode i).getD 2 0) = i := by
  cases i with
  | lxiB w | lxiD w | lxiH w | lxiSp w | shld w | lhld w | sta w | lda w
  | jmp w | jnz w | jz w | jnc w | jc w | jpo w | jpe w | jp w | jm w
  | call w | cnz w | cz w | cnc w | cc w | cpo w | cpe w | cp w | cm w
  | jmpCB w | callDD w | callED w | callFD w =>
    simp only [Instr.opcode, encode, List.headD_cons]
    exact eq_of_operand_bytes _ w rfl
  | _ =>
    simp only [Instr.opcode, encode, List.headD_cons]
    rfl

theorem nibble_cases (n : BitVec 4) : n ∈ [0#4, 1, 2, 3, 4, 5, 6, 7, 8, 9, 10, 11, 12, 13, 14, 15] := by
  decide +revert

/-- Entry by entry of the map, the instruction read at an opcode byte is encoded by that byte and as many of the bytes
after it as R109 gives its format. -/
theorem encode_decodeOp (op b1 b2 : Byte) : encode (decodeOp op b1 b2) = [op, b1, b2].take (opcodeLen op).bytes := by
  obtain ⟨w, rfl, rfl⟩ : ∃ w, b1 = immLow w ∧ b2 = immHigh w := ⟨immWord b1 b2, by simp⟩
  obtain ⟨hi, lo, rfl⟩ : ∃ hi lo : BitVec 4, op = hi ++ lo :=
    ⟨op.extractLsb' 4 4, op.extractLsb' 0 4, by decide +revert⟩
  simp only [decodeOp, immWord_immLow_immHigh]
  have hhi := nibble_cases hi
  have hlo := nibble_cases lo
  fin_cases hhi <;> fin_cases hlo <;> rfl

theorem opcode_decodeOp (op b1 b2 : Byte) : (decodeOp op b1 b2).opcode = op := by
  rw [Instr.opcode, encode_decodeOp]
  cases opcodeLen op <;> rfl

end Sys2Proof
end

section
/-! The encoder and the decoder are inverse to each other, and no byte string of the length R109 asks for is refused
(R100, R107 to R109, R113). -/

namespace Sys2Proof

variable {op : Byte} {bytes rest : List Byte} {i : Instr}

/-- R109: the length of an encoding is a function of its opcode byte. -/
theorem length_encode (i : Instr) : (encode i).length = (opcodeLen i.opcode).bytes := by
  have h := encode_decodeOp i.opcode ((encode i).getD 1 0) ((encode i).getD 2 0)
  rw [decodeOp_encode] at h
  rw [h]
  cases opcodeLen i.opcode <;> rfl

theorem decode_one (h : opcodeLen op = .one) (rest : List Byte) :
    decode (op :: rest) = .ok (decodeOp op 0 0, rest) := by simp only [decode, h]

theorem decode_two (h : opcodeLen op = .two) (b1 : Byte) (rest : List Byte) :
    decode (op :: b1 :: rest) = .ok (decodeOp op b1 0, rest) := by simp only [decode, h]

theorem decode_three (h : opcodeLen op = .three) (b1 b2 : Byte) (rest : List Byte) :
    decode (op :: b1 :: b2 :: rest) = .ok (decodeOp op b1 b2, rest) := by simp only [decode, h]

theorem InstrLen.bytes_pos (n : InstrLen) : 0 < n.bytes := by cases n <;> decide

theorem length_encode_pos (i : Instr) : 0 < (encode i).length := length_encode i ▸ InstrLen.bytes_pos _

theorem opcode_eq_getD (i : Instr) : i.opcode = (encode i).getD 0 0 := by
  unfold Instr.opcode
  cases encode i <;> rfl

/-- As many bytes as R109 gives the first of them decode, whatever follows. -/
theorem decode_append (h : bytes.length = (opcodeLen (bytes.headD 0)).bytes) (rest : List Byte) :
    decode (bytes ++ rest) = .ok (decodeOp (bytes.headD 0) (bytes.getD 1 0) (bytes.getD 2 0), rest) := by
  cases hn : opcodeLen (bytes.headD 0) with
  | one =>
    obtain ⟨op, rfl⟩ := List.length_eq_one_iff.1 (hn ▸ h)
    exact decode_one hn rest
  | two =>
    obtain ⟨op, b1, rfl⟩ := List.length_eq_two.1 (hn ▸ h)
    exact decode_two hn b1 rest
  | three =>
    obtain ⟨op, b1, b2, rfl⟩ := List.length_eq_three.1 (hn ▸ h)
    exact decode_three hn b1 b2 rest

theorem decode_encode (i : Instr) (rest : List Byte) : decode (encode i ++ rest) = .ok (i, rest) := by
  rw [decode_append (length_encode i), ← Instr.opcode, decodeOp_encode]

/-- Settles O11: an encoding has the length of its opcode byte, and row by row its bytes are read as the instruction. -/
theorem decodeEncodeRoundTrip : Obligations.DecodeEncodeRoundTrip := decode_encode

/-- The bytes decoded, by the length of the opcode byte: an instruction of the map, and what is left over. -/
theorem eq_encode_append_of_decode (h : decode bytes = .ok (i, rest)) : bytes = encode i ++ rest := by
  unfold decode at h
  split at h
  · cases h
  next op more =>
    split at h
    case h_1 hn | h_2 hn | h_3 hn =>
      cases h
      rw [encode_decodeOp, hn]
      rfl
    case h_4 => cases h

/-- R113: the decoder refuses for want of bytes alone. -/
theorem length_lt_of_decode_error {e : DecodeError} (h : decode (op :: rest) = .error e) :
    (op :: rest).length < (opcodeLen op).bytes := by
  by_contra hlong
  have htake : ((op :: rest).take (opcodeLen op).bytes).length = (opcodeLen op).bytes :=
    List.length_take_of_le (Nat.not_lt.1 hlong)
  have hhead : ((op :: rest).take (opcodeLen op).bytes).headD 0 = op := by cases opcodeLen op <;> rfl
  rw [← List.take_append_drop (opcodeLen op).bytes (op :: rest), decode_append (by rw [htake, hhead])] at h
  cases h

/-- Settles O12: the map read at an opcode byte is encoded by that byte and the operand bytes read. -/
theorem decodedBytesAreTheEncoding : Obligations.DecodedBytesAreTheEncoding := by
  refine ⟨fun bytes rest i => eq_encode_append_of_decode, fun bytes e h => ?_⟩
  cases bytes with
  | nil => exact .inl rfl
  | cons op more => exact .inr ⟨op, more, rfl, length_lt_of_decode_error h⟩

/-- Settles O14: each string is the encoding of the instruction named, followed by what is left over. -/
theorem sourceBytesDecode : Obligations.SourceBytesDecode :=
  ⟨decode_encode (.mviA 5) [], decode_encode (.mviB 1) [0x04], decode_encode .inrB [], decode_encode (.jmp 0x1000) [],
    decode_encode (.call 0x1000) []⟩

end Sys2Proof
end

section
/-! The layouts of R102: the opcode byte built from its fields, read as the row of those fields (R103 to R106). -/

open Sys2Proof.Claims

namespace Sys2Proof

variable (b1 b2 : Byte)

theorem decodeOp_mov (dst src : Reg8) : decodeOp (0b01#2 ++ dst.code ++ src.code) b1 b2 = movForm dst src := by
  cases dst <;> cases src <;> rfl

theorem decodeOp_movFromM (dst : Reg8) : decodeOp (0b01#2 ++ dst.code ++ 0b110#3) b1 b2 = movFromM dst := by
  cases dst <;> rfl

theorem decodeOp_movToM (src : Reg8) : decodeOp (0b01110#5 ++ src.code) b1 b2 = movToM src := by cases src <;> rfl

theorem decodeOp_alu (f : AluOp) (src : Operand8) :
    decodeOp (0b10#2 ++ f.code ++ src.code) b1 b2 = aluForm f src := by
  cases src with
  | reg r => cases f <;> cases r <;> rfl
  | m => cases f <;> rfl

theorem decodeOp_aluImm (f : AluOp) : decodeOp (0b11#2 ++ f.code ++ 0b110#3) b1 b2 = aluImmForm f b1 := by
  cases f <;> rfl

theorem decodeOp_mvi (dst : Reg8) : decodeOp (0b00#2 ++ dst.code ++ 0b110#3) b1 b2 = mviForm dst b1 := by
  cases dst <;> rfl

theorem decodeOp_inr (dst : Reg8) : decodeOp (0b00#2 ++ dst.code ++ 0b100#3) b1 b2 = inrForm dst := by
  cases dst <;> rfl

theorem decodeOp_dcr (dst : Reg8) : decodeOp (0b00#2 ++ dst.code ++ 0b101#3) b1 b2 = dcrForm dst := by
  cases dst <;> rfl

theorem decodeOp_lxi (p : Pair) : decodeOp (0b00#2 ++ p.code ++ 0b0001#4) b1 b2 = lxiForm p (wordOf b2 b1) := by
  cases p <;> rfl

theorem decodeOp_dad (p : Pair) : decodeOp (0b00#2 ++ p.code ++ 0b1001#4) b1 b2 = dadForm p := by cases p <;> rfl

theorem decodeOp_inx (p : Pair) : decodeOp (0b00#2 ++ p.code ++ 0b0011#4) b1 b2 = inxForm p := by cases p <;> rfl

theorem decodeOp_dcx (p : Pair) : decodeOp (0b00#2 ++ p.code ++ 0b1011#4) b1 b2 = dcxForm p := by cases p <;> rfl

theorem decodeOp_stax (p : IndexPair) : decodeOp (0b000#3 ++ p.code ++ 0b0010#4) b1 b2 = staxForm p := by
  cases p <;> rfl

theorem decodeOp_ldax (p : IndexPair) : decodeOp (0b000#3 ++ p.code ++ 0b1010#4) b1 b2 = ldaxForm p := by
  cases p <;> rfl

theorem decodeOp_rcc (k : Cond) : decodeOp (0b11#2 ++ k.code ++ 0b000#3) b1 b2 = rccForm k := by cases k <;> rfl

theorem decodeOp_jcc (k : Cond) : decodeOp (0b11#2 ++ k.code ++ 0b010#3) b1 b2 = jccForm k (wordOf b2 b1) := by
  cases k <;> rfl

theorem decodeOp_ccc (k : Cond) : decodeOp (0b11#2 ++ k.code ++ 0b100#3) b1 b2 = cccForm k (wordOf b2 b1) := by
  cases k <;> rfl

theorem decodeOp_rst (n : Fin 8) : decodeOp (0b11#2 ++ BitVec.ofNat 3 n ++ 0b111#3) b1 b2 = rstForm n := by
  fin_cases n <;> rfl

theorem decodeOp_push (p : StackPair) : decodeOp (0b11#2 ++ p.code ++ 0b0101#4) b1 b2 = pushForm p := by
  cases p <;> rfl

theorem decodeOp_pop (p : StackPair) : decodeOp (0b11#2 ++ p.code ++ 0b0001#4) b1 b2 = popForm p := by
  cases p <;> rfl

/-- Settles O13: layout by layout; a byte without fields is its own entry of the map. -/
theorem opcodeFieldLayouts : Obligations.OpcodeFieldLayouts := by
  refine ⟨fun dst src b1 b2 => decodeOp_mov b1 b2 dst src,
    fun r b1 b2 => ⟨decodeOp_movFromM b1 b2 r, decodeOp_movToM b1 b2 r⟩,
    fun f r b1 b2 => decodeOp_alu b1 b2 f r,
    fun f b1 b2 => decodeOp_aluImm b1 b2 f,
    fun r b1 b2 => ⟨decodeOp_mvi b1 b2 r, decodeOp_inr b1 b2 r, decodeOp_dcr b1 b2 r⟩,
    fun p b1 b2 => ⟨decodeOp_lxi b1 b2 p, decodeOp_dad b1 b2 p, decodeOp_inx b1 b2 p, decodeOp_dcx b1 b2 p⟩,
    fun p b1 b2 => ⟨decodeOp_stax b1 b2 p, decodeOp_ldax b1 b2 p⟩,
    fun k b1 b2 => ⟨decodeOp_rcc b1 b2 k, decodeOp_jcc b1 b2 k, decodeOp_ccc b1 b2 k⟩,
    fun n b1 b2 => decodeOp_rst b1 b2 n,
    fun p b1 b2 => ⟨decodeOp_push b1 b2 p, decodeOp_pop b1 b2 p⟩,
    fun b1 b2 => ?single, fun b1 b2 => ?aliases⟩
  case single | aliases => and_intros <;> rfl

end Sys2Proof
end

section
/-! The fetch of R110 by which of its bytes can be read, and the step that follows it. -/

open Sys2Proof.Claims

namespace Sys2Proof.Machine

variable {s : State} {i : Instr} {k : Nat}

@[simp] theorem andThen_raiseFault {α β : Type} (f : FaultInfo) (k : α → Host.Outcome β Fault Refusal) :
    andThen (raiseFault f s) k = raiseFault f s := by cases f <;> rfl

theorem memRead_eq_raiseFault {x : Word} (h : ¬ Readable s x) :
    memRead x s = raiseFault (.memReadOutOfBounds x (fold s.cfg x)) s := if_neg h

/-! ### The fetch, by its length -/

theorem fetchLen_of_implemented {g : MachineConfig} {op : Byte} (h : implemented g op = true) :
    fetchLen g op = opcodeLen op := if_pos h

theorem fetchLen_of_not_implemented {g : MachineConfig} {op : Byte} (h : implemented g op = false) :
    fetchLen g op = fallbackLen g op := if_neg (ne_true_of_eq_false h)

theorem fetchInstr_one (h0 : Readable s s.pc) (hn : fetchLen s.cfg (byteAt s s.pc) = .one) :
    fetchInstr s = .next (decodeOp (byteAt s s.pc) 0 0) := by
  simp only [fetchInstr, memRead_of_readable h0, andThen_next, hn]

theorem fetchInstr_two (h0 : Readable s s.pc) (hn : fetchLen s.cfg (byteAt s s.pc) = .two) :
    fetchInstr s = andThen (memRead (s.pc + BitVec.ofNat 16 1) s) fun b1 => .next (decodeOp (byteAt s s.pc) b1 0) := by
  simp only [fetchInstr, memRead_of_readable h0, andThen_next, hn]
  rfl

theorem fetchInstr_three (h0 : Readable s s.pc) (hn : fetchLen s.cfg (byteAt s s.pc) = .three) :
    fetchInstr s = andThen (memRead (s.pc + BitVec.ofNat 16 1) s) fun b1 =>
      andThen (memRead (s.pc + BitVec.ofNat 16 2) s) fun b2 => .next (decodeOp (byteAt s s.pc) b1 b2) := by
  simp only [fetchInstr, memRead_of_readable h0, andThen_next, hn]
  rfl

/-! ### The fetch, by its bytes -/

/-- The number of bytes the fetch at PC reads, the opcode byte among them (R110). -/
def fetchCount (s : State) : Nat := (fetchLen s.cfg (byteAt s s.pc)).bytes

/-- What the decoder is given as byte `k` of the fetch at PC: the byte there, or 0 where the fetch does not reach
(notes/assumptions/29.md). -/
def fetchedByte (s : State) (k : Nat) : Byte := if k < fetchCount s then byteAt s (s.pc + BitVec.ofNat 16 k) else 0

theorem fetchedByte_of_lt (h : k < fetchCount s) : fetchedByte s k = byteAt s (s.pc + BitVec.ofNat 16 k) := if_pos h

theorem fetchedByte_of_le (h : fetchCount s ≤ k) : fetchedByte s k = 0 := if_neg (Nat.not_lt.2 h)

theorem fetchCount_of_fetchLen {n : InstrLen} (h : fetchLen s.cfg (byteAt s s.pc) = n) : fetchCount s = n.bytes :=
  congrArg InstrLen.bytes h

theorem fetchCount_pos (s : State) : 0 < fetchCount s := InstrLen.bytes_pos _

/-- A fetch all of whose bytes can be read. -/
theorem fetchInstr_of_readable (h : ∀ k, k < fetchCount s → Readable s (s.pc + BitVec.ofNat 16 k)) :
    fetchInstr s = .next (decodeOp (byteAt s s.pc) (fetchedByte s 1) (fetchedByte s 2)) := by
  have h0 : Readable s s.pc := by simpa using h 0 (fetchCount_pos s)
  cases hn : fetchLen s.cfg (byteAt s s.pc) with
  | one =>
    have hc : fetchCount s = 1 := fetchCount_of_fetchLen hn
    rw [fetchInstr_one h0 hn, fetchedByte_of_le (by omega), fetchedByte_of_le (by omega)]
  | two =>
    have hc : fetchCount s = 2 := fetchCount_of_fetchLen hn
    rw [fetchInstr_two h0 hn, memRead_of_readable (h 1 (by omega)), andThen_next,
      fetchedByte_of_lt (by omega), fetchedByte_of_le (by omega)]
  | three =>
    have hc : fetchCount s = 3 := fetchCount_of_fetchLen hn
    rw [fetchInstr_three h0 hn, memRead_of_readable (h 1 (by omega)), andThen_next,
      memRead_of_readable (h 2 (by omega)), andThen_next, fetchedByte_of_lt (by omega), fetchedByte_of_lt (by omega)]

/-- A fetch whose first byte that cannot be read is byte `k` (R301, R306). -/
theorem fetchInstr_of_not_readable (hk : k < fetchCount s)
    (hread : ∀ j, j < k → Readable s (s.pc + BitVec.ofNat 16 j)) (hfault : ¬ Readable s (s.pc + BitVec.ofNat 16 k)) :
    fetchInstr s = raiseFault
      (.memReadOutOfBounds (s.pc + BitVec.ofNat 16 k) (fold s.cfg (s.pc + BitVec.ofNat 16 k))) s := by
  cases k with
  | zero =>
    rw [BitVec.add_zero] at hfault ⊢
    rw [fetchInstr, memRead_eq_raiseFault hfault, andThen_raiseFault]
  | succ k =>
    have h0 : Readable s s.pc := by simpa using hread 0 (Nat.succ_pos k)
    cases hn : fetchLen s.cfg (byteAt s s.pc) with
    | one =>
      have hc : fetchCount s = 1 := fetchCount_of_fetchLen hn
      omega
    | two =>
      have hc : fetchCount s = 2 := fetchCount_of_fetchLen hn
      obtain rfl : k = 0 := by omega
      rw [fetchInstr_two h0 hn, memRead_eq_raiseFault hfault, andThen_raiseFault]
    | three =>
      have hc : fetchCount s = 3 := fetchCount_of_fetchLen hn
      obtain rfl | rfl : k = 0 ∨ k = 1 := by omega
      · rw [fetchInstr_three h0 hn, memRead_eq_raiseFault hfault, andThen_raiseFault]
      · rw [fetchInstr_three h0 hn, memRead_of_readable (hread 1 (by omega)), andThen_next,
          memRead_eq_raiseFault hfault, andThen_raiseFault]

/-- A step whose fetch faults ends there: the step is counted, and PC is not advanced (R300, R306). -/
theorem step_of_not_readable (hq : s.hostCalls = []) (hr : s.run = .running) (hk : k < fetchCount s)
    (hread : ∀ j, j < k → Readable s (s.pc + BitVec.ofNat 16 j)) (hfault : ¬ Readable s (s.pc + BitVec.ofNat 16 k)) :
    step s = readFault (s.pc + BitVec.ofNat 16 k) { s with nsteps := s.nsteps + 1 } := by
  rw [step_running hq hr, fetchInstr_of_not_readable (s := countStep s) hk hread hfault, andThen_raiseFault]
  rfl

/-- Settles O18: the opcode byte is byte 0 of the fetch, which every fetch reads. -/
theorem fetchFaultEndsStep : Obligations.FetchFaultEndsStep := by
  refine fun s hq hr => ⟨fun hfault => ?opcode, fun k _ hk => step_of_not_readable hq hr hk⟩
  case opcode =>
    have hpc : s.pc + BitVec.ofNat 16 0 = s.pc := BitVec.add_zero s.pc
    have hstep := step_of_not_readable hq hr (fetchCount_pos s) (fun j hj => absurd hj (Nat.not_lt_zero j))
      (by rwa [hpc])
    rwa [hpc] at hstep

/-! ### The step after its fetch -/

/-- A step all of whose fetch can be read executes what is decoded, counted, and tests the opcode breakpoint. -/
theorem step_of_readable (hq : s.hostCalls = []) (hr : s.run = .running)
    (h : ∀ k, k < fetchCount s → Readable s (s.pc + BitVec.ofNat 16 k)) :
    step s = andThen (exec (decodeOp (byteAt s s.pc) (fetchedByte s 1) (fetchedByte s 2)) (countStep s))
      opcodeBreakpoint := by
  rw [step_running hq hr, fetchInstr_of_readable (s := countStep s) h, andThen_next]
  rfl

theorem opcodeBreakpoint_of_miss (h : ¬ (s.run = .running ∧ s.pc ∈ s.bpOpcode ∧ s.cbBkpt = true)) :
    opcodeBreakpoint s = .next s := by rw [opcodeBreakpoint_eq, if_neg h]

theorem exec_of_not_implemented (h : implemented s.cfg i.opcode = false) : exec i s = fallback i.opcode s := by
  obtain ⟨rule, -, he⟩ := exec_eq_dispatch i
  rw [he, dispatch_unimplemented h]

/-- Settles O16: what is decoded has the opcode byte at PC, so that its meaning is the fallback. -/
theorem stepFallsBackOutsideImplSet : Obligations.StepFallsBackOutsideImplSet := by
  intro s hq hr himp hread hbp
  have hstep := step_of_readable hq hr (by rwa [fetchCount, fetchLen_of_not_implemented himp])
  rw [exec_of_not_implemented (by rwa [opcode_decodeOp]), opcode_decodeOp, fallback, andThen_next,
    opcodeBreakpoint_of_miss fun hhit => hbp hhit.2.1] at hstep
  exact hstep

/-- The bytes of an encoding at PC are what the decoder is given. -/
theorem decodeOp_fetchedByte_of_encoding (hi : Runs i s)
    (hbytes : ∀ k, k < (encode i).length → byteAt s (s.pc + BitVec.ofNat 16 k) = (encode i).getD k 0) :
    fetchCount s = (encode i).length ∧ decodeOp (byteAt s s.pc) (fetchedByte s 1) (fetchedByte s 2) = i := by
  have hop : byteAt s s.pc = i.opcode := by
    simpa [opcode_eq_getD] using hbytes 0 (length_encode_pos i)
  have hcount : fetchCount s = (encode i).length := by
    rw [length_encode, fetchCount, hop, fetchLen_of_implemented hi]
  have hfetched (k : Nat) : fetchedByte s k = (encode i).getD k 0 := by
    by_cases hk : k < fetchCount s
    · rw [fetchedByte_of_lt hk, hbytes k (hcount ▸ hk)]
    · rw [fetchedByte_of_le (Nat.not_lt.1 hk), List.getD_eq_default _ _ (hcount ▸ Nat.not_lt.1 hk)]
  exact ⟨hcount, by rw [hop, hfetched, hfetched, decodeOp_encode]⟩

theorem callbackReads_of_firstOutOfBounds_none {l : List Word} (h : firstOutOfBounds s l = none) :
    callbackReads l s = .next s := by
  rw [firstOutOfBounds] at h
  simp only [callbackReads_eq, h]

theorem callbackReads_of_firstOutOfBounds_some {l : List Word} {r : Word} (h : firstOutOfBounds s l = some r) :
    callbackReads l s = readFault r s := by
  rw [firstOutOfBounds] at h
  simp only [callbackReads_eq, h]
  rfl

/-- Settles O15: the bytes fetched are decoded to the instruction they encode; what follows its meaning is the opcode
breakpoint test, by whether it notifies and whether the callback then reads out of bounds. -/
theorem stepRunsDecodedInstruction : Obligations.StepRunsDecodedInstruction := by
  intro s i hq hr hi hbytes
  obtain ⟨hcount, hdecoded⟩ := decodeOp_fetchedByte_of_encoding hi fun k hk => (hbytes k hk).2
  rw [step_of_readable hq hr fun k hk => (hbytes k (hcount ▸ hk)).1, hdecoded, countStep]
  cases exec i { s with nsteps := s.nsteps + 1 } with
  | fault f => rfl
  | refused r => rfl
  | next t =>
    simp only [andThen_next, opcodeBreakpoint_eq]
    split
    · split
      next r hfirst => exact callbackReads_of_firstOutOfBounds_some hfirst
      next hfirst => exact callbackReads_of_firstOutOfBounds_none hfirst
    · rfl

end Sys2Proof.Machine
end

section
/-! What a row of the opcode table does inside IMPL_SET, and the words of the statements for an encoding, a read and a
write: the rules with which statements about single instructions are proved. -/

open Sys2Proof.Claims

namespace Sys2Proof.Machine

variable {s : State} {i : Instr} {rule : State → Answer} {o : Answer}

/-! ### The rule of a row (R111) -/

/-- A row has one rule: the one its `HasRule` names. The operand codes of a form tell its rows apart. -/
theorem HasRule.exec_eq_dispatch (hr : HasRule rule i) (s : State) : exec i s = dispatch i.opcode rule s := by
  cases hr with
  | mov dst src hi => subst hi; cases dst <;> cases src <;> rfl
  | movFromM r hi | movToM r hi | inr r hi | dcr r hi | mvi r _ hi => subst hi; cases r <;> rfl
  | add src hi | adc src hi | sub src hi | sbb src hi | ana src hi | xra src hi | ora src hi | cmp src hi =>
    subst hi
    cases src with
    | reg r => cases r <;> rfl
    | m => rfl
  | inx p hi | dcx p hi | dad p hi | lxi p _ hi | ldax p hi | stax p hi | push p hi | pop p hi =>
    subst hi; cases p <;> rfl
  | jcc k _ hi | ccc k _ hi | rcc k hi => subst hi; cases k <;> rfl
  | jmp _ hi | callAlias _ hi | ret hi | nop hi => fin_cases hi <;> rfl
  | rst n hi =>
    obtain ⟨hn, rfl⟩ := hi
    interval_cases n <;> rfl
  | adi _ hi | aci _ hi | sui _ hi | sbi _ hi | ani _ hi | xri _ hi | ori _ hi | cpi _ hi => subst hi; rfl
  | _ => rfl

/-- Inside IMPL_SET a row answers what its rule answers. -/
theorem HasRule.exec_eq (hr : HasRule rule i) (hi : Runs i s) : exec i s = rule s :=
  (hr.exec_eq_dispatch s).trans (dispatch_implemented hi)

/-! ### An encoding with a 16-bit operand (R107) -/

theorem encodedAs_word {op : Byte} {w : Word} (h : encode i = [op, immLow w, immHigh w]) :
    EncodedAs i [op, lowOf w, highOf w] := by
  rw [EncodedAs, h, ← lowByte_eq_lowOf, ← highByte_eq_highOf, immLow, immHigh, lowByte, highByte]

/-! ### A rule that reads or writes memory and goes on (R76, R77, R306) -/

/-- A rule that goes on after a read, in the words of the statements. -/
theorem readThen_of_andThen_memRead {x : Word} {k : Byte → Prop} {rest : Byte → Answer}
    (ho : o = andThen (memRead x s) rest) (hk : ∀ v, o = rest v → k v) : ReadThen x s o k := by
  subst ho
  refine ⟨fun hread => hk _ ?admitted, fun hfault => ?fault⟩
  case admitted => rw [memRead_of_readable hread, andThen_next]
  case fault => rw [memRead_of_not_readable hfault, andThen_fault, readFault]

/-- The fault of a write ends the rule that goes on after it. -/
theorem andThen_writeFault (x : Word) (v : Byte) (s : State) (rest : State → Answer) :
    andThen (writeFault x v s) rest = writeFault x v s := by
  unfold writeFault
  split <;> rfl

/-- A rule that goes on after a write, in the words of the statements: what follows finds the storage, the trace and the
callback's reads of the write, and the rest of the state as it was; each fault of the write ends the rule. -/
theorem writeThen_of_andThen_memWrite {x : Word} {v : Byte} {k : State → Prop} {rest : State → Answer}
    (ho : o = andThen (memWrite x v s) rest)
    (hk : ∀ m events reads, o = rest { s with store := m, trace := events, bpReads := reads } →
      k { s with store := m, trace := events, bpReads := reads }) : WriteThen x v s o k := by
  subst ho
  unfold WriteThen
  split
  next r hr => rw [memWrite_of_callbackFault_some hr, readFault, andThen_fault]
  next hc =>
    refine ⟨fun hw => ⟨_, storesOnly_writeByte x v s, hk _ _ _ ?admitted⟩, fun hw => ?fault⟩
    case admitted => rw [memWrite_of_writable (callbackInBounds_of_callbackFault_none hc) hw, andThen_next]
    case fault => rw [memWrite_eq_writeFault hc hw, andThen_writeFault]

end Sys2Proof.Machine
end

section
/-! Data transfer (R130 to R142, R245): each row by the rule it has. -/

open Sys2Proof.Claims

namespace Sys2Proof.Machine

/-! ### The end of a rule that writes a register or a pair (R110) -/

theorem advance_setReg (n : InstrLen) (r : Reg8) (v : Byte) (s : State) :
    advance n (setReg r v s) = { setReg r v s with pc := s.pc + BitVec.ofNat 16 n.bytes } := by
  rw [advance, setReg_pc]

theorem advance_setPair (n : InstrLen) (p : Pair) (v : Word) (s : State) :
    advance n (setPair p v s) = { setPair p v s with pc := s.pc + BitVec.ofNat 16 n.bytes } := by
  rw [advance, setPair_pc]

/-- R30: a register reads what was last written to it. -/
theorem getReg_setReg (r q : Reg8) (v : Byte) (s : State) :
    getReg q (setReg r v s) = if q = r then v else getReg q s := by
  split
  next h => rw [h, getReg_setReg_same]
  next h => exact getReg_setReg_other h v s

/-- Settles O22: the rule of the 49 rows is one register written with another's value. -/
theorem movBetweenRegisters : Obligations.MovBetweenRegisters := by
  refine fun dst src => ⟨?encoded, fun s hi => ⟨?answer, fun q => getReg_setReg dst q _ s⟩⟩
  case encoded => cases dst <;> cases src <;> rfl
  case answer =>
    exact ((HasRule.mov dst src rfl).exec_eq hi).trans (congrArg Host.Outcome.next (advance_setReg .one dst _ s))

/-- Settles O23: each rule is its reads, then its registers; LHLD makes the second read with L written. -/
theorem loadsReadMemory : Obligations.LoadsReadMemory := by
  refine ⟨fun dst => ⟨?movEncoded, fun s hi => ?mov⟩, fun x => ⟨encodedAs_word rfl, fun s hi => ?lda⟩,
    fun x => ⟨encodedAs_word rfl, fun s hi => ?lhld⟩, fun p => ⟨?ldaxEncoded, fun s hi => ?ldax⟩⟩
  case movEncoded => cases dst <;> rfl
  case ldaxEncoded => cases p <;> rfl
  case mov =>
    exact readThen_of_andThen_memRead ((HasRule.movFromM dst rfl).exec_eq hi) fun v h =>
      h.trans (congrArg Host.Outcome.next (advance_setReg .one dst v s))
  case lda => exact readThen_of_andThen_memRead ((HasRule.lda x).exec_eq hi) fun _ => id
  case lhld =>
    exact readThen_of_andThen_memRead ((HasRule.lhld x).exec_eq hi) fun _ h =>
      readThen_of_andThen_memRead h fun _ => id
  case ldax => exact readThen_of_andThen_memRead ((HasRule.ldax p rfl).exec_eq hi) fun _ => id

/-- Settles O24: each rule is its writes, then PC; SHLD makes the second write on the state that the first left. -/
theorem storesWriteMemory : Obligations.StoresWriteMemory := by
  refine ⟨fun src => ⟨?movEncoded, fun s hi => ?mov⟩, fun d8 => ⟨rfl, fun s hi => ?mvi⟩,
    fun x => ⟨encodedAs_word rfl, fun s hi => ?sta⟩, fun x => ⟨encodedAs_word rfl, fun s hi => ?shld⟩,
    fun p => ⟨?staxEncoded, fun s hi => ?stax⟩⟩
  case movEncoded => cases src <;> rfl
  case staxEncoded => cases p <;> rfl
  case mov => exact writeThen_of_andThen_memWrite ((HasRule.movToM src rfl).exec_eq hi) fun _ _ _ => id
  case mvi => exact writeThen_of_andThen_memWrite ((HasRule.mviM d8).exec_eq hi) fun _ _ _ => id
  case sta => exact writeThen_of_andThen_memWrite ((HasRule.sta x).exec_eq hi) fun _ _ _ => id
  case shld =>
    exact writeThen_of_andThen_memWrite ((HasRule.shld x).exec_eq hi) fun _ _ _ h =>
      writeThen_of_andThen_memWrite h fun _ _ _ => id
  case stax => exact writeThen_of_andThen_memWrite ((HasRule.stax p rfl).exec_eq hi) fun _ _ _ => id

/-- Settles O25: the rules of MVI and LXI are the write of the immediate, then PC. -/
theorem immediateLoads : Obligations.ImmediateLoads := by
  refine ⟨fun dst d8 => ⟨?mviEncoded, fun s hi => ?mvi⟩, fun p d16 => ⟨?lxiEncoded, fun s hi => ?lxi⟩⟩
  case mviEncoded => cases dst <;> rfl
  case lxiEncoded => cases p <;> exact encodedAs_word rfl
  case mvi =>
    exact ((HasRule.mvi dst d8 rfl).exec_eq hi).trans (congrArg Host.Outcome.next (advance_setReg .two dst d8 s))
  case lxi =>
    exact ((HasRule.lxi p d16 rfl).exec_eq hi).trans (congrArg Host.Outcome.next (advance_setPair .three p d16 s))

/-- Settles O26: both rules are one update of the state. -/
theorem exchangeAndSphl : Obligations.ExchangeAndSphl :=
  ⟨rfl, rfl, fun _ => ⟨HasRule.xchg.exec_eq, HasRule.sphl.exec_eq⟩⟩

end Sys2Proof.Machine
end

section
/-! What an ALU operation computes, in numbers (R17, R150, R165, R166): the model's flags and results are those of the
statements. -/

open Sys2Proof.Claims

namespace Sys2Proof.Machine

/-! ### Flags after a result (R17) -/

/-- Counting the 1 bits one by one, as the statements do. -/
theorem onesIn_eq_bitCount (v : Byte) : onesIn v = bitCount v := by
  have hbit (k : Nat) : decide (v.toNat / 2 ^ k % 2 = 1) = v.getLsbD k := (Nat.testBit_eq_decide_div_mod_eq).symm
  simp only [onesIn, hbit, ← List.countP_eq_length_filter, List.range_succ, List.countP_append, List.countP_singleton,
    bitCount, Bool.toNat, cond_eq_ite, List.range_zero, List.countP_nil, Nat.zero_add]

theorem sf_eq_decide (v : Byte) : sf v = decide (128 ≤ v.toNat) := BitVec.msb_eq_decide v

theorem zf_eq_decide (v : Byte) : zf v = decide (v.toNat = 0) := by
  rw [zf, beq_eq_decide, decide_eq_decide, ← BitVec.toNat_inj]
  rfl

/-- R17: `setZSP` keeps CY and AC. -/
theorem setZSP_eq_resultFlags (v : Byte) (f : Flags) : setZSP v f = resultFlags v f.cy f := by
  rw [setZSP, resultFlags, zf_eq_decide, sf_eq_decide, pf, beq_eq_decide, onesIn_eq_bitCount]

/-- The end of an ALU rule that writes A, with the flags of the statements. -/
theorem writeResult_eq (r : Byte × Bool) (s : State) :
    writeResult r s = { s with a := r.1, flags := resultFlags r.1 r.2 s.flags } := by
  rw [writeResult, setZSP_eq_resultFlags]
  rfl

/-! ### Sums and differences (R150) -/

theorem add8_eq (x y : Byte) (carryIn : Bool) :
    add8 x y carryIn = (BitVec.ofNat 8 (x.toNat + y.toNat + carryIn.toNat),
      decide (0xFF < x.toNat + y.toNat + carryIn.toNat)) := by
  have hc := carryIn.toNat_le
  have hx := x.isLt
  have hy := y.isLt
  have hsum : (x.toNat + y.toNat + carryIn.toNat) % 2 ^ 16 = x.toNat + y.toNat + carryIn.toNat := by omega
  simp only [add8, BitVec.toNat_ofNat, hsum, BitVec.truncate_eq_setWidth, gt_iff_lt, Prod.mk.injEq, and_true]
  exact BitVec.eq_of_toNat_eq (by simp)

/-- `add8` into A is the sum of the statements. -/
theorem writeResult_add8 (carryIn : Bool) (v : Byte) (s : State) :
    writeResult (add8 s.a v carryIn) s = added carryIn v s := by rw [writeResult_eq, add8_eq, added]

/-- The low byte of the 16-bit difference is the difference modulo 256, and its upper byte is 0 unless a borrow was
made. -/
theorem sub8_eq (v : Byte) (borrowIn : Bool) (s : State) :
    sub8 s.a v borrowIn = (difference borrowIn v s, decide (s.a.toNat < v.toNat + borrowIn.toNat)) := by
  have hb := borrowIn.toNat_le
  have ha := s.a.isLt
  have hv := v.isLt
  refine Prod.ext (BitVec.eq_of_toNat_eq ?result) (decide_eq_decide.2 ?borrow)
  case result =>
    simp only [sub8, difference, BitVec.truncate_eq_setWidth, BitVec.toNat_setWidth, BitVec.toNat_ofInt,
      BitVec.toNat_ofNat]
    omega
  case borrow =>
    rw [BitVec.toNat_ofInt]
    omega

theorem writeResult_sub8 (borrowIn : Bool) (v : Byte) (s : State) :
    writeResult (sub8 s.a v borrowIn) s = subtracted borrowIn v s := by
  rw [writeResult_eq, sub8_eq, subtracted, differenceFlags]

/-! ### One up, one down -/

theorem ofNat_toNat_add {w : Nat} (x : BitVec w) (n : Nat) : BitVec.ofNat w (x.toNat + n) = x + BitVec.ofNat w n := by
  rw [BitVec.ofNat_add, BitVec.ofNat_toNat, BitVec.setWidth_eq]

theorem ofNat_toNat_add_pred {w : Nat} (x : BitVec w) : BitVec.ofNat w (x.toNat + (2 ^ w - 1)) = x - 1#w := by
  rw [ofNat_toNat_add, BitVec.sub_eq_add_neg, BitVec.neg_one_eq_allOnes, ← BitVec.toNat_allOnes, BitVec.ofNat_toNat,
    BitVec.setWidth_eq]

/-! ### DAD and DAA -/

theorem add16_eq (x y : Word) :
    add16 x y = (BitVec.ofNat 16 (x.toNat + y.toNat), decide (0xFFFF < x.toNat + y.toNat)) := by
  have hx := x.isLt
  have hy := y.isLt
  have hsum : (x.toNat + y.toNat) % 2 ^ 32 = x.toNat + y.toNat := by omega
  simp only [add16, BitVec.toNat_ofNat, hsum, BitVec.truncate_eq_setWidth, gt_iff_lt, Prod.mk.injEq, and_true]
  exact BitVec.eq_of_toNat_eq (by simp)

theorem daaAdjust_eq (x : Byte) (cy ac : Bool) :
    daaAdjust x cy ac =
      (BitVec.ofNat 8 (x.toNat + (if 9 < x.toNat % 16 ∨ ac = true then 0x06 else 0) +
        (if 0x99 < x.toNat ∨ cy = true then 0x60 else 0)), decide (0x99 < x.toNat) || cy) := by
  have hnibble : (x &&& 0x0F).toNat = x.toNat % 16 := by
    rw [BitVec.toNat_and]; exact Nat.and_two_pow_sub_one_eq_mod x.toNat 4
  rw [daaAdjust, hnibble]
  simp only [gt_iff_lt, Bool.or_eq_true, decide_eq_true_eq, Prod.mk.injEq, and_true, Nat.add_assoc, ofNat_toNat_add]
  split <;> split <;> rfl

end Sys2Proof.Machine
end

section
/-! Arithmetic (R151 to R166): each row by the rule it has. -/

open Sys2Proof.Claims

namespace Sys2Proof.Machine

variable {s : State} {o : Answer}

/-! ### ALU rules on a register, M or an immediate (R102, R103, R106) -/

theorem encodedAs_aluForm (f : AluOp) (src : Operand8) : EncodedAs (aluForm f src) [0b10#2 ++ f.code ++ src.code] := by
  cases src with
  | reg r => cases f <;> cases r <;> rfl
  | m => cases f <;> rfl

/-- An ALU rule whose result is known, in the words of the statements. -/
theorem operandThen_of_operandRule {rule : Byte → State → State} {src : Operand8} {result : Byte → State}
    (ho : o = operandRule rule src s) (hresult : ∀ v, rule v s = result v) :
    OperandThen src s o fun v => o = .next (advance .one (result v)) := by
  obtain rfl : (fun v => rule v s) = result := funext hresult
  cases src with
  | reg q => exact ho
  | m => exact readThen_of_andThen_memRead ho fun _ => id

theorem eq_next_of_immediateRule {rule : Byte → State → State} {d8 : Byte} {t : State}
    (ho : o = immediateRule rule d8 s) (hresult : rule d8 s = t) : o = .next (advance .two t) := hresult ▸ ho

/-- Settles O27: the rule of each row writes the exact sum modulo 256 and its flags. -/
theorem additions : Obligations.Additions := by
  refine ⟨fun r => ⟨encodedAs_aluForm .add r, encodedAs_aluForm .adc r, fun s => ⟨fun hi => ?add, fun hi => ?adc⟩⟩,
    fun d8 => ⟨rfl, rfl, fun s => ⟨fun hi => ?adi, fun hi => ?aci⟩⟩⟩
  case add =>
    exact operandThen_of_operandRule ((HasRule.add r rfl).exec_eq hi) fun v => writeResult_add8 false v s
  case adc =>
    exact operandThen_of_operandRule ((HasRule.adc r rfl).exec_eq hi) fun v => writeResult_add8 s.flags.cy v s
  case adi => exact eq_next_of_immediateRule ((HasRule.adi d8 rfl).exec_eq hi) (writeResult_add8 false d8 s)
  case aci => exact eq_next_of_immediateRule ((HasRule.aci d8 rfl).exec_eq hi) (writeResult_add8 s.flags.cy d8 s)

/-- Settles O28: the rule of each row writes the difference modulo 256 and its flags, with the borrow in CY. -/
theorem subtractions : Obligations.Subtractions := by
  refine ⟨fun r => ⟨encodedAs_aluForm .sub r, encodedAs_aluForm .sbb r, fun s => ⟨fun hi => ?sub, fun hi => ?sbb⟩⟩,
    fun d8 => ⟨rfl, rfl, fun s => ⟨fun hi => ?sui, fun hi => ?sbi⟩⟩⟩
  case sub =>
    exact operandThen_of_operandRule ((HasRule.sub r rfl).exec_eq hi) fun v => writeResult_sub8 false v s
  case sbb =>
    exact operandThen_of_operandRule ((HasRule.sbb r rfl).exec_eq hi) fun v => writeResult_sub8 s.flags.cy v s
  case sui => exact eq_next_of_immediateRule ((HasRule.sui d8 rfl).exec_eq hi) (writeResult_sub8 false d8 s)
  case sbi => exact eq_next_of_immediateRule ((HasRule.sbi d8 rfl).exec_eq hi) (writeResult_sub8 s.flags.cy d8 s)

/-! ### INR and DCR: the operand is written back, then Z, S, P (R159 to R162) -/

/-- What INR and DCR do with the value they computed: the operand, then Z, S, P and PC. -/
def writeBack (dst : Operand8) (v : Byte) (s : State) : Answer :=
  andThen (writeOperand dst v s) fun t => .next (advance .one { t with flags := setZSP v t.flags })

theorem inrRule_eq (dst : Operand8) (s : State) :
    inrRule dst s = andThen (readOperand dst s) fun x => writeBack dst (BitVec.ofNat 8 (x.toNat + 1)) s := by
  simp only [ofNat_toNat_add]
  rfl

theorem dcrRule_eq (dst : Operand8) (s : State) :
    dcrRule dst s = andThen (readOperand dst s) fun x => writeBack dst (BitVec.ofNat 8 (x.toNat + 255)) s := by
  have hpred (x : Byte) : BitVec.ofNat 8 (x.toNat + 255) = x - 1 := ofNat_toNat_add_pred x
  simp only [hpred]
  rfl

theorem writeBack_reg (r : Reg8) (v : Byte) (s : State) :
    writeBack (.reg r) v s =
      .next { setReg r v s with flags := resultFlags v s.flags.cy s.flags, pc := s.pc + 1 } := by
  simp only [writeBack, writeOperand, andThen_next, advance, setReg_flags, setReg_pc, setZSP_eq_resultFlags]
  rfl

theorem writeThen_of_writeBack_m {v : Byte} (ho : o = writeBack .m v s) :
    WriteThen (wordOf s.h s.l) v s o fun t =>
      o = .next { t with flags := resultFlags v s.flags.cy s.flags, pc := s.pc + 1 } := by
  refine writeThen_of_andThen_memWrite ho fun m events reads h => h.trans ?_
  simp only [setZSP_eq_resultFlags]
  rfl

/-- Settles O31: the register read is written back. -/
theorem incrementRegister : Obligations.IncrementRegister := by
  refine fun r => ⟨?inrEncoded, ?dcrEncoded, fun s => ⟨fun hi => ?inr, fun hi => ?dcr⟩⟩
  case inrEncoded => cases r <;> rfl
  case dcrEncoded => cases r <;> rfl
  case inr => exact ((HasRule.inr r rfl).exec_eq hi).trans ((inrRule_eq _ s).trans (writeBack_reg r _ s))
  case dcr => exact ((HasRule.dcr r rfl).exec_eq hi).trans ((dcrRule_eq _ s).trans (writeBack_reg r _ s))

/-- Settles O32: the byte read is written back, and the flags are those before the write but for Z, S and P. -/
theorem incrementMemory : Obligations.IncrementMemory := by
  refine ⟨rfl, rfl, fun s => ⟨fun hi => ?inr, fun hi => ?dcr⟩⟩
  case inr =>
    exact readThen_of_andThen_memRead ((HasRule.inrM.exec_eq hi).trans (inrRule_eq .m s)) fun _ =>
      writeThen_of_writeBack_m
  case dcr =>
    exact readThen_of_andThen_memRead ((HasRule.dcrM.exec_eq hi).trans (dcrRule_eq .m s)) fun _ =>
      writeThen_of_writeBack_m

/-! ### The register pairs, and DAA (R163 to R166) -/

/-- Settles O33: each rule is one pair written. -/
theorem incrementPair : Obligations.IncrementPair := by
  refine fun p => ⟨?inxEncoded, ?dcxEncoded, fun s => ⟨fun hi => ?inx, fun hi => ?dcx⟩⟩
  case inxEncoded => cases p <;> rfl
  case dcxEncoded => cases p <;> rfl
  case inx =>
    rw [(HasRule.inx p rfl).exec_eq hi, ofNat_toNat_add]
    exact congrArg Host.Outcome.next (advance_setPair .one p _ s)
  case dcx =>
    have hpred : BitVec.ofNat 16 ((getPair p s).toNat + 65535) = getPair p s - 1 := ofNat_toNat_add_pred _
    rw [(HasRule.dcx p rfl).exec_eq hi, hpred]
    exact congrArg Host.Outcome.next (advance_setPair .one p _ s)

/-- Settles O34: `add16` is the exact sum's low word and its carry. -/
theorem doubleAdd : Obligations.DoubleAdd := by
  refine fun p => ⟨?encoded, fun s hi => ?answer⟩
  case encoded => cases p <;> rfl
  case answer =>
    rw [(HasRule.dad p rfl).exec_eq hi, dadRule, add16_eq]
    simp only [← highByte_eq_highOf, ← lowByte_eq_lowOf]
    rfl

/-- Settles O35: the correction read as a sum, and the flags of its result. -/
theorem decimalAdjust : Obligations.DecimalAdjust := by
  refine ⟨rfl, fun s hi => ?_⟩
  rw [HasRule.daa.exec_eq hi, daaRule, daaAdjust_eq, writeResult_eq]
  rfl

end Sys2Proof.Machine
end

section
/-! What a comparison, a logical operation, a rotate and a complement compute, in numbers (R180 to R195). -/

open Sys2Proof.Claims

namespace Sys2Proof.Machine

/-! ### Comparisons and logical operations (R180 to R188) -/

theorem cmpRule_eq (v : Byte) (s : State) : cmpRule v s = { s with flags := differenceFlags false v s } := by
  rw [cmpRule, sub8_eq, setZSP_eq_resultFlags]
  rfl

/-- A difference modulo 256 of two bytes is 0 for equal bytes alone. -/
theorem toNat_difference_eq_zero_iff (v : Byte) (s : State) : (difference false v s).toNat = 0 ↔ s.a = v := by
  have ha := s.a.isLt
  have hv := v.isLt
  rw [difference, BitVec.toNat_ofNat, Bool.toNat_false, ← BitVec.toNat_inj]
  omega

/-- The end of ANA, XRA, ORA and their immediate forms (R180). -/
theorem writeResult_false (r : Byte) (s : State) : writeResult (r, false) s = logicalResult r s := writeResult_eq _ s

/-! ### A byte moved by one bit (R189 to R192) -/

/-- The bit that comes in at the bottom is added to the even number above it. -/
theorem shiftLeft_or_eq (x : Byte) (b : Bool) :
    (x <<< 1) ||| (if b then 0x01 else 0x00) = BitVec.ofNat 8 (x.toNat * 2 % 256 + b.toNat) := by
  have hbit : (if b then 0x01 else 0x00 : Byte).toNat = b.toNat := by cases b <;> rfl
  have hsum : 2 ^ 1 * (x.toNat % 128) + b.toNat = 2 ^ 1 * (x.toNat % 128) ||| b.toNat :=
    Nat.two_pow_add_eq_or_of_lt b.toNat_lt _
  have heven : x.toNat * 2 % 256 = 2 ^ 1 * (x.toNat % 128) := by omega
  have hb := b.toNat_le
  apply BitVec.eq_of_toNat_eq
  rw [BitVec.toNat_or, BitVec.toNat_shiftLeft, Nat.shiftLeft_eq, Nat.pow_one, hbit, heven, ← hsum, BitVec.toNat_ofNat]
  omega

/-- The bit that comes in at the top is added to the number below 128. -/
theorem ushiftRight_or_eq (x : Byte) (b : Bool) :
    (x >>> 1) ||| (if b then 0x80 else 0x00) = BitVec.ofNat 8 (x.toNat / 2 + 128 * b.toNat) := by
  have hbit : (if b then 0x80 else 0x00 : Byte).toNat = 2 ^ 7 * b.toNat := by cases b <;> rfl
  have hx := x.isLt
  have hb := b.toNat_le
  have hsum : 2 ^ 7 * b.toNat + x.toNat / 2 = 2 ^ 7 * b.toNat ||| x.toNat / 2 :=
    Nat.two_pow_add_eq_or_of_lt (by omega) _
  apply BitVec.eq_of_toNat_eq
  rw [BitVec.toNat_or, BitVec.toNat_ushiftRight, Nat.shiftRight_eq_div_pow, Nat.pow_one, hbit, Nat.or_comm, ← hsum,
    BitVec.toNat_ofNat]
  omega

/-- Bit 7 of a byte is its upper half. -/
theorem toNat_getLsbD_seven (x : Byte) : (x.getLsbD 7).toNat = x.toNat / 128 := by
  have hx := x.isLt
  rw [BitVec.getLsbD, Nat.toNat_testBit]
  omega

theorem toNat_getLsbD_zero (x : Byte) : (x.getLsbD 0).toNat = x.toNat % 2 := by
  rw [BitVec.getLsbD, Nat.toNat_testBit, Nat.pow_zero, Nat.div_one]

theorem eq_decide_toNat_eq_one (b : Bool) : b = decide (b.toNat = 1) := by cases b <;> rfl

theorem ral8_eq (x : Byte) (cy : Bool) :
    ral8 x cy = (BitVec.ofNat 8 (x.toNat * 2 % 256 + cy.toNat), decide (x.toNat / 128 = 1)) := by
  rw [ral8, shiftLeft_or_eq, ← toNat_getLsbD_seven, ← eq_decide_toNat_eq_one]

theorem rar8_eq (x : Byte) (cy : Bool) :
    rar8 x cy = (BitVec.ofNat 8 (x.toNat / 2 + 128 * cy.toNat), decide (x.toNat % 2 = 1)) := by
  rw [rar8, ushiftRight_or_eq, ← toNat_getLsbD_zero, ← eq_decide_toNat_eq_one]

/-- RLC is RAL with the bit shifted out coming in. -/
theorem rlc8_eq (x : Byte) :
    rlc8 x = (BitVec.ofNat 8 (x.toNat * 2 % 256 + x.toNat / 128), decide (x.toNat / 128 = 1)) := by
  have hral : rlc8 x = ral8 x (x.getLsbD 7) := rfl
  rw [hral, ral8_eq, toNat_getLsbD_seven]

/-- RRC is RAR with the bit shifted out coming in. -/
theorem rrc8_eq (x : Byte) :
    rrc8 x = (BitVec.ofNat 8 (x.toNat / 2 + 128 * (x.toNat % 2)), decide (x.toNat % 2 = 1)) := by
  have hrar : rrc8 x = rar8 x (x.getLsbD 0) := rfl
  rw [hrar, rar8_eq, toNat_getLsbD_zero]

/-- A rotate whose result is known, in the words of the statements. -/
theorem rotateRule_eq {r : Nat} {out : Bool} {y : Byte × Bool} (hy : y = (BitVec.ofNat 8 r, out)) (s : State) :
    rotateRule y s = .next { rotated r out s with pc := s.pc + 1 } := hy ▸ rfl

/-! ### The complement (R193) -/

theorem xor_eq_ofNat_sub (x : Byte) : x ^^^ 0xFF = BitVec.ofNat 8 (255 - x.toNat) := by
  have hnot : x ^^^ 0xFF = ~~~x := BitVec.xor_allOnes
  rw [hnot]
  apply BitVec.eq_of_toNat_eq
  rw [BitVec.toNat_not, BitVec.toNat_ofNat]
  omega

end Sys2Proof.Machine
end

section
/-! Logical operations, comparisons, rotates and the carry (R180 to R195): each row by the rule it has. -/

open Sys2Proof.Claims

namespace Sys2Proof.Machine

/-- Settles O29: the rule writes the flags of a subtraction, whose Z and CY are read off the difference of A and the
operand. -/
theorem comparisons : Obligations.Comparisons := by
  refine ⟨fun r => ⟨encodedAs_aluForm .cmp r, fun s hi => ?cmp⟩, fun d8 => ⟨rfl, fun s hi => ?cpi⟩,
    fun v s => ⟨?zero, ?carry⟩⟩
  case cmp => exact operandThen_of_operandRule ((HasRule.cmp r rfl).exec_eq hi) fun v => cmpRule_eq v s
  case cpi => exact eq_next_of_immediateRule ((HasRule.cpi d8 rfl).exec_eq hi) (cmpRule_eq d8 s)
  case zero => exact decide_eq_true_iff.trans (toNat_difference_eq_zero_iff v s)
  case carry => exact decide_eq_true_iff

/-- Settles O30: each rule writes its bitwise result, the flags of it, and CY = 0. -/
theorem logicalOperations : Obligations.LogicalOperations := by
  refine ⟨fun r => ⟨encodedAs_aluForm .ana r, encodedAs_aluForm .xra r, encodedAs_aluForm .ora r,
      fun s => ⟨fun hi => ?ana, fun hi => ?xra, fun hi => ?ora⟩⟩,
    fun d8 => ⟨rfl, rfl, rfl, fun s => ⟨fun hi => ?ani, fun hi => ?xri, fun hi => ?ori⟩⟩⟩
  case ana =>
    exact operandThen_of_operandRule ((HasRule.ana r rfl).exec_eq hi) fun v => writeResult_false (s.a &&& v) s
  case xra =>
    exact operandThen_of_operandRule ((HasRule.xra r rfl).exec_eq hi) fun v => writeResult_false (s.a ^^^ v) s
  case ora =>
    exact operandThen_of_operandRule ((HasRule.ora r rfl).exec_eq hi) fun v => writeResult_false (s.a ||| v) s
  case ani => exact eq_next_of_immediateRule ((HasRule.ani d8 rfl).exec_eq hi) (writeResult_false (s.a &&& d8) s)
  case xri => exact eq_next_of_immediateRule ((HasRule.xri d8 rfl).exec_eq hi) (writeResult_false (s.a ^^^ d8) s)
  case ori => exact eq_next_of_immediateRule ((HasRule.ori d8 rfl).exec_eq hi) (writeResult_false (s.a ||| d8) s)

/-- Settles O36: each rule writes A moved by one bit and the bit shifted out, read as numbers. -/
theorem rotates : Obligations.Rotates := by
  refine ⟨rfl, rfl, rfl, rfl, fun s => ⟨fun hi => ?rlc, fun hi => ?rrc, fun hi => ?ral, fun hi => ?rar⟩⟩
  case rlc => exact (HasRule.rlc.exec_eq hi).trans (rotateRule_eq (rlc8_eq s.a) s)
  case rrc => exact (HasRule.rrc.exec_eq hi).trans (rotateRule_eq (rrc8_eq s.a) s)
  case ral => exact (HasRule.ral.exec_eq hi).trans (rotateRule_eq (ral8_eq s.a s.flags.cy) s)
  case rar => exact (HasRule.rar.exec_eq hi).trans (rotateRule_eq (rar8_eq s.a s.flags.cy) s)

/-- Settles O37: each rule is one update of A or of CY. -/
theorem complementAndCarry : Obligations.ComplementAndCarry := by
  refine ⟨rfl, rfl, rfl, fun s => ⟨fun hi => ?cma, fun hi => ?cmc, HasRule.stc.exec_eq⟩⟩
  case cma =>
    rw [HasRule.cma.exec_eq hi, cmaRule, xor_eq_ofNat_sub]
    rfl
  case cmc =>
    have hnot : (!s.flags.cy) = decide (s.flags.cy = false) := by cases s.flags.cy <;> rfl
    rw [HasRule.cmc.exec_eq hi, cmcRule, hnot]
    rfl

end Sys2Proof.Machine
end

section
/-! The shared operations of the branches, in the words of the statements: the fallback, the conditions, a push and a
pop that a rule goes on after (R105, R210, R272). -/

open Sys2Proof.Claims

namespace Sys2Proof.Machine

variable {s : State} {i : Instr} {o : Answer}

/-- Outside IMPL_SET a row takes the fallback (R111, R272). -/
theorem exec_of_not_runs (hi : ¬ Runs i s) : exec i s = .next (skipped i s) :=
  exec_of_not_implemented (eq_false_of_ne_true hi)

/-- R105: the condition a code tests is the one its suffix names. -/
theorem condHolds_eq_conditionTrue (k : Cond) (f : Flags) : condHolds k f = conditionTrue k f := by
  cases k <;> simp [condHolds, conditionTrue]

theorem andThen_assoc {α β γ : Type} (x : Host.Outcome α Fault Refusal) (f : α → Host.Outcome β Fault Refusal)
    (g : β → Host.Outcome γ Fault Refusal) : andThen (andThen x f) g = andThen x fun v => andThen (f v) g := by
  cases x <;> rfl

/-- A rule that goes on after a push, in the words of the statements: the write at SP-1, then the write at SP-2 on what
the first left, then SP (R210). -/
theorem pushThen_of_andThen_push16 {v : Word} {k : State → Prop} {rest : State → Answer}
    (ho : o = andThen (push16 v s) rest) (hk : ∀ t, o = rest t → k t) : PushThen v s o k := by
  simp only [push16, andThen_assoc, andThen_next, highByte_eq_highOf, lowByte_eq_lowOf] at ho
  exact writeThen_of_andThen_memWrite ho fun _ _ _ h => writeThen_of_andThen_memWrite h fun _ _ _ => hk _

/-- A rule that goes on after a pop, in the words of the statements (R210). -/
theorem popThen_of_andThen_pop16 {k : Byte → Byte → State → Prop} {rest : Word × State → Answer}
    (ho : o = andThen (pop16 s) rest)
    (hk : ∀ hi lo, o = rest (wordOf hi lo, { s with sp := s.sp + 2 }) → k hi lo { s with sp := s.sp + 2 }) :
    PopThen s o k := by
  simp only [pop16, andThen_assoc, andThen_next] at ho
  exact readThen_of_andThen_memRead ho fun lo h => readThen_of_andThen_memRead h fun hi => hk hi lo

theorem pushThen_of_callTo {ret target : Word} (ho : o = callTo ret target s) :
    PushThen ret s o fun t => o = .next { t with pc := target } := pushThen_of_andThen_push16 ho fun _ => id

theorem popThen_of_returnTo (ho : o = returnTo s) :
    PopThen s o fun hi lo t => o = .next { t with pc := wordOf hi lo } := popThen_of_andThen_pop16 ho fun _ _ => id

end Sys2Proof.Machine
end

section
/-! Jumps, calls, returns and restarts (R212 to R219, R267 to R269): each row by the rule it has. -/

open Sys2Proof.Claims

namespace Sys2Proof.Machine

variable {s : State}

/-! ### A condition that holds, and one that does not (R213, R215, R217) -/

theorem jccRule_eq (k : Cond) (a16 : Word) (s : State) :
    jccRule k a16 s = .next { s with pc := if conditionTrue k s.flags then a16 else s.pc + 3 } := by
  rw [jccRule, condHolds_eq_conditionTrue]
  split <;> rfl

theorem cccRule_eq (k : Cond) (a16 : Word) (s : State) : cccRule k a16 s =
    if conditionTrue k s.flags then plainCallRule a16 s else .next (advance .three s) := by
  rw [cccRule, condHolds_eq_conditionTrue]

theorem rccRule_eq (k : Cond) (s : State) : rccRule k s =
    if conditionTrue k s.flags then returnTo s else .next (advance .one s) := by
  rw [rccRule, condHolds_eq_conditionTrue]

/-! ### The three ways of CALL (R214, R230, R231) -/

theorem callRule_exit (hd : s.cfg.diagEnabled = true) : callRule 0 s = diagExit s := if_pos (by simp [hd])

theorem callRule_diagVector (hd : s.cfg.diagEnabled = true) (hv : s.cfg.diagVector ≠ 0) :
    callRule s.cfg.diagVector s = andThen (diagConsole s) fun t => .next (advance .three t) := by
  rw [callRule, if_neg (by simpa [hd] using hv), if_pos (by simp [hd])]

theorem callRule_plain {a16 : Word} (h : s.cfg.diagEnabled = false ∨ (a16 ≠ 0 ∧ a16 ≠ s.cfg.diagVector)) :
    callRule a16 s = plainCallRule a16 s := by
  rcases h with hd | ⟨hzero, hvector⟩
  · simp [callRule, hd]
  · rw [callRule, if_neg (by simpa using fun _ => hzero), if_neg (by simp [hvector])]

/-! ### The statements -/

/-- Settles O38: each rule is one update of PC, and 0xCB outside IMPL_SET takes the fallback. -/
theorem jumpsAssignPc : Obligations.JumpsAssignPc := by
  refine ⟨rfl, fun x => ⟨encodedAs_word rfl, encodedAs_word rfl, fun s => ⟨?jmp, ?jmpCB, exec_of_not_runs⟩⟩,
    fun s => HasRule.pchl.exec_eq⟩
  case jmp => exact (HasRule.jmp x (by simp)).exec_eq
  case jmpCB => exact (HasRule.jmp x (by simp)).exec_eq

/-- Settles O39: the rule of the eight rows chooses PC by the condition its code tests. -/
theorem conditionalJumps : Obligations.ConditionalJumps := by
  refine fun k x => ⟨?encoded, fun s hi => ((HasRule.jcc k x rfl).exec_eq hi).trans (jccRule_eq k x s)⟩
  case encoded => cases k <;> exact encodedAs_word rfl

/-- Settles O40: each rule pushes the address of the byte after the row and goes to its target, CALL where neither
test of its hook holds. -/
theorem callsPushReturnAddress : Obligations.CallsPushReturnAddress := by
  refine ⟨fun x => ⟨encodedAs_word rfl, fun s hi hplain => ?call⟩,
    fun x => ⟨encodedAs_word rfl, encodedAs_word rfl, encodedAs_word rfl, fun i s hmem hi => ?callAlias⟩,
    fun x i s _ => exec_of_not_runs, fun n => ⟨?rstEncoded, fun s hi => ?rst⟩⟩
  case call => exact pushThen_of_callTo (((HasRule.call x).exec_eq hi).trans (callRule_plain hplain))
  case callAlias => exact pushThen_of_callTo ((HasRule.callAlias x hmem).exec_eq hi)
  case rstEncoded => fin_cases n <;> rfl
  case rst => exact pushThen_of_callTo ((HasRule.rst n ⟨n.isLt, rfl⟩).exec_eq hi)

/-- Settles O41: the rule of the eight rows is the call with no hook when the condition holds, and else PC alone. -/
theorem conditionalCalls : Obligations.ConditionalCalls := by
  refine fun k x => ⟨?encoded, fun s hi => ⟨fun hk => ?taken, fun hk => ?notTaken⟩⟩
  case encoded => cases k <;> exact encodedAs_word rfl
  case taken =>
    exact pushThen_of_callTo (((HasRule.ccc k x rfl).exec_eq hi).trans ((cccRule_eq k x s).trans (if_pos hk)))
  case notTaken =>
    exact ((HasRule.ccc k x rfl).exec_eq hi).trans ((cccRule_eq k x s).trans (if_neg (ne_true_of_eq_false hk)))

/-- Settles O42: RET, 0xD9 and a taken Rcc are one pop into PC; a not-taken Rcc is PC alone. -/
theorem returnsPopPc : Obligations.ReturnsPopPc := by
  refine ⟨rfl, rfl, fun i s hmem hi => ?ret, fun s => exec_of_not_runs,
    fun k => ⟨?encoded, fun s hi => ⟨fun hk => ?taken, fun hk => ?notTaken⟩⟩⟩
  case ret => exact popThen_of_returnTo ((HasRule.ret hmem).exec_eq hi)
  case encoded => cases k <;> rfl
  case taken =>
    exact popThen_of_returnTo (((HasRule.rcc k rfl).exec_eq hi).trans ((rccRule_eq k s).trans (if_pos hk)))
  case notTaken =>
    exact ((HasRule.rcc k rfl).exec_eq hi).trans ((rccRule_eq k s).trans (if_neg (ne_true_of_eq_false hk)))

end Sys2Proof.Machine
end

section
/-! The diagnostic hook of CALL (R230, R231): the exit, the placeholder line and the console string. -/

open Sys2Proof.Claims

namespace Sys2Proof.Machine

variable {s : State} {x : Word} {left : Nat} {text : List Byte}

/-- Settles O43: with the hook on, the target chooses the exit or the console, and C the placeholder line. -/
theorem diagnosticExitAndTrace : Obligations.DiagnosticExitAndTrace := by
  refine fun s hd hi => ⟨?exits, fun hv hc => ?traces⟩
  case exits => exact ((HasRule.call 0).exec_eq hi).trans (callRule_exit hd)
  case traces =>
    have hline : diagConsole s = .next (emit (.consoleTrace s.c) s) := if_neg hc
    rw [(HasRule.call s.cfg.diagVector).exec_eq hi, callRule_diagVector hd hv, hline]
    rfl

/-! ### One turn of the console string, by the byte it reads -/

theorem consoleString_of_terminator (hread : Readable s x) (hend : byteAt s x = 0x24 ∨ byteAt s x = 0x00) :
    consoleString (left + 1) x s = .next s := by
  rw [consoleString, memRead_of_readable hread, andThen_next, if_pos (by simpa using hend)]

theorem consoleString_of_character (hread : Readable s x) (hdollar : byteAt s x ≠ 0x24) (hnul : byteAt s x ≠ 0x00) :
    consoleString (left + 1) x s = consoleString left (x + 1) (emit (.console (byteAt s x)) s) := by
  rw [consoleString, memRead_of_readable hread, andThen_next, if_neg (by simpa using ⟨hdollar, hnul⟩)]

theorem consoleString_of_not_readable (hfault : ¬ Readable s x) : consoleString (left + 1) x s = readFault x s := by
  rw [consoleString, memRead_of_not_readable hfault, andThen_fault, readFault]

/-! ### The turns over a text with no terminator -/

/-- The bytes from `x` up can be read and are `text`, with no '$' and no NUL among them. -/
def TextAt (s : State) (x : Word) (text : List Byte) : Prop :=
  ∀ k, k < text.length → Readable s (x + BitVec.ofNat 16 k) ∧
    byteAt s (x + BitVec.ofNat 16 k) = text.getD k 0 ∧ text.getD k 0 ≠ 0x24 ∧ text.getD k 0 ≠ 0x00

/-- `s` after the characters of `text` went to the console, in order. -/
def printing (text : List Byte) (s : State) : State :=
  { s with trace := (text.map .console).reverse ++ s.trace }

theorem printing_cons (v : Byte) (text : List Byte) (s : State) :
    printing (v :: text) s = printing text (emit (.console v) s) := by
  simp [printing, emit]

theorem add_ofNat_succ (x : Word) (k : Nat) : x + BitVec.ofNat 16 (k + 1) = x + 1 + BitVec.ofNat 16 k := by
  rw [Nat.add_comm k, BitVec.ofNat_add, ← BitVec.add_assoc]
  rfl

theorem TextAt.head {v : Byte} (h : TextAt s x (v :: text)) :
    Readable s x ∧ byteAt s x = v ∧ v ≠ 0x24 ∧ v ≠ 0x00 := by
  simpa using h 0 (Nat.succ_pos _)

/-- The rest of the text stands one byte up, and a character that goes out changes no byte. -/
theorem TextAt.tail {v : Byte} (h : TextAt s x (v :: text)) : TextAt (emit (.console v) s) (x + 1) text := by
  intro k hk
  rw [← add_ofNat_succ]
  exact h (k + 1) (Nat.succ_lt_succ hk)

/-- A text with no terminator goes out whole, and the string goes on after it with the turns that are left. -/
theorem consoleString_of_textAt (htext : TextAt s x text) (left : Nat) :
    consoleString (text.length + left) x s =
      consoleString left (x + BitVec.ofNat 16 text.length) (printing text s) := by
  induction text generalizing s x with
  | nil => simp [printing]
  | cons v text ih =>
    obtain ⟨hread, rfl, hdollar, hnul⟩ := htext.head
    rw [List.length_cons, Nat.succ_add, consoleString_of_character hread hdollar hnul, ih htext.tail, add_ofNat_succ,
      printing_cons]

/-- CALL DIAG_VECTOR with DIAG_PRINT_C in C is the console string at DE with all its turns, then PC + 3 (R230). -/
theorem exec_call_print (hd : s.cfg.diagEnabled = true) (hv : s.cfg.diagVector ≠ 0)
    (hi : Runs (.call s.cfg.diagVector) s) (hc : s.c = s.cfg.diagPrintC) : exec (.call s.cfg.diagVector) s =
      andThen (consoleString 65536 (getDE s) s) fun t => .next (advance .three t) := by
  rw [(HasRule.call s.cfg.diagVector).exec_eq hi, callRule_diagVector hd hv, diagConsole, if_pos hc]

/-- Settles O44: the text goes out in as many turns as it has characters; the byte after it decides the next turn, and
with no turn left the string is refused. -/
theorem diagnosticConsolePrints : Obligations.DiagnosticConsolePrints := by
  intro s text hd hv hi hc htext
  have hprint (left : Nat) : consoleString (text.length + left) (getDE s) s =
      consoleString left (wordOf s.d s.e + BitVec.ofNat 16 text.length) (printing text s) :=
    consoleString_of_textAt htext left
  refine ⟨fun hlt hread hend => ?terminated, fun hlt hfault => ?faults, fun hfull => ?unterminated⟩
  case terminated =>
    obtain ⟨left, hleft⟩ := Nat.exists_eq_add_of_lt hlt
    rw [exec_call_print hd hv hi hc, hleft, Nat.add_assoc, hprint,
      consoleString_of_terminator (s := printing text s) hread hend]
    rfl
  case faults =>
    obtain ⟨left, hleft⟩ := Nat.exists_eq_add_of_lt hlt
    rw [exec_call_print hd hv hi hc, hleft, Nat.add_assoc, hprint,
      consoleString_of_not_readable (s := printing text s) hfault]
    rfl
  case unterminated =>
    rw [exec_call_print hd hv hi hc, ← hfull, ← Nat.add_zero text.length, hprint]
    rfl

end Sys2Proof.Machine
end

section
/-! The stack instructions (R240 to R244): each row by the rule it has. -/

open Sys2Proof.Claims

namespace Sys2Proof.Machine

variable {s : State} {o : Answer}

/-! ### The flag byte (R41, R42) -/

theorem packF_eq_flagByte (f : Flags) : packF f = flagByte f := by
  obtain ⟨z, s, p, cy, ac⟩ := f
  revert z s p cy ac
  decide

theorem unpackF_eq_flagsIn (v : Byte) : unpackF v = flagsIn v := by
  have hbit (k : Nat) : v.getLsbD k = decide (v.toNat / 2 ^ k % 2 = 1) := Nat.testBit_eq_decide_div_mod_eq
  simp only [unpackF, flagsIn, hbit, Nat.pow_zero, Nat.div_one, Nat.reducePow]

theorem getPSW_eq_wordOf (s : State) : getPSW s = wordOf s.a (flagByte s.flags) := by
  rw [getPSW, packF_eq_flagByte]
  rfl

theorem setPSW_wordOf (hi lo : Byte) (s : State) :
    setPSW (wordOf hi lo) s = { s with a := hi, flags := flagsIn lo } := by
  have hword : wordOf hi lo = concat hi lo := rfl
  rw [setPSW, hword, highByte_concat, lowByte_concat, unpackF_eq_flagsIn]

/-! ### PUSH -/

/-- A rule that is a push and then PC + 1, in the words of the statements: the two writes leave PC as it was. -/
theorem pushThen_of_push16_advance {v : Word} (ho : o = andThen (push16 v s) fun t => .next (advance .one t)) :
    PushThen v s o fun t => o = .next { t with pc := s.pc + 1 } := by
  simp only [push16, andThen_assoc, andThen_next, highByte_eq_highOf, lowByte_eq_lowOf] at ho
  exact writeThen_of_andThen_memWrite ho fun _ _ _ h => writeThen_of_andThen_memWrite h fun _ _ _ => id

/-! ### The statements -/

/-- Settles O45: both rules are one push, of the pair or of PSW, then PC. -/
theorem pushStoresPair : Obligations.PushStoresPair := by
  refine ⟨fun p => ⟨?encoded, fun s hi => ?pair⟩, rfl, fun s hi => ?psw⟩
  case encoded => cases p <;> rfl
  case pair => exact pushThen_of_push16_advance ((HasRule.push p rfl).exec_eq hi)
  case psw =>
    rw [← getPSW_eq_wordOf]
    exact pushThen_of_push16_advance (HasRule.pushPsw.exec_eq hi)

/-- Settles O46: both rules are one pop, then the word popped in the pair or in PSW. -/
theorem popLoadsPair : Obligations.PopLoadsPair := by
  refine ⟨fun p => ⟨?encoded, fun s hi => ?pair⟩, rfl, fun s hi => ?psw⟩
  case encoded => cases p <;> rfl
  case pair =>
    exact popThen_of_andThen_pop16 ((HasRule.pop p rfl).exec_eq hi) fun _ _ h =>
      h.trans (congrArg Host.Outcome.next (advance_setPair .one (stackPair p) _ _))
  case psw =>
    exact popThen_of_andThen_pop16 (HasRule.popPsw.exec_eq hi) fun high low h =>
      h.trans (congrArg (fun t => Host.Outcome.next (advance .one t)) (setPSW_wordOf high low _))

/-- Settles O47: the rule is its two reads and its two writes, the second write on what the first left, then HL. -/
theorem exchangeStackTop : Obligations.ExchangeStackTop := by
  refine ⟨rfl, fun s hi => ?_⟩
  exact readThen_of_andThen_memRead (HasRule.xthl.exec_eq hi) fun _ h =>
    readThen_of_andThen_memRead h fun _ h =>
    writeThen_of_andThen_memWrite h fun _ _ _ h =>
    writeThen_of_andThen_memWrite h fun _ _ _ => id

end Sys2Proof.Machine
end

section
/-! What a push leaves for the pop after it (R210): PUSH then POP, CALL then RET. -/

open Sys2Proof.Claims

namespace Sys2Proof.Machine

variable {s t : State} {v : Word}

/-- What a pop finds in `t` after a push of `v` from `s`: SP, two bytes that can be read, and in them the halves of `v`,
the high one where the low one was not stored over it. -/
structure Pushed (v : Word) (s t : State) : Prop where
  sp : t.sp = s.sp - 2
  readable_high : Readable t (s.sp - 1)
  readable_low : Readable t (s.sp - 2)
  byteAt_high : fold s.cfg (s.sp - 1) ≠ fold s.cfg (s.sp - 2) → byteAt t (s.sp - 1) = highByte v
  byteAt_low : byteAt t (s.sp - 2) = lowByte v

theorem Pushed.advance (h : Pushed v s t) (n : InstrLen) : Pushed v s (advance n t) := { h with }

theorem Pushed.jumpTo (h : Pushed v s t) (x : Word) : Pushed v s (jumpTo x t) := { h with }

/-- A byte that can be written can be read, and the two stores are read back at their folded indices. -/
theorem push16_pushed (v : Word) (s : State) : Ensures (push16 v s) (Pushed v s) := by
  intro t h
  obtain ⟨-, ⟨hhigh, -⟩, -, ⟨hlow, -⟩, rfl⟩ := push16_eq_next.1 h
  exact {
    sp := rfl
    readable_high := hhigh
    readable_low := hlow
    byteAt_high := fun hne => by simp only [byteAt, readByte_writeByte, if_neg hne, if_pos]
    byteAt_low := by simp only [byteAt, readByte_writeByte, if_pos] }

/-- After a push a pop completes, with SP where the push found it. -/
theorem Pushed.pop16 (h : Pushed v s t) :
    pop16 t = .next (concat (byteAt t (s.sp - 1)) (byteAt t (s.sp - 2)), { t with sp := s.sp }) := by
  have hnext : s.sp - 2 + 1 = s.sp - 1 := by bv_omega
  rw [pop16_of_readable (by rw [h.sp]; exact h.readable_low) (by rw [h.sp, hnext]; exact h.readable_high), h.sp, hnext,
    BitVec.sub_add_cancel]

/-- The word popped is the word pushed where the two stack bytes are two bytes. -/
theorem Pushed.word_eq (h : Pushed v s t) (hne : fold s.cfg (s.sp - 1) ≠ fold s.cfg (s.sp - 2)) :
    concat (byteAt t (s.sp - 1)) (byteAt t (s.sp - 2)) = v := by
  rw [h.byteAt_high hne, h.byteAt_low, concat_highByte_lowByte]

/-! ### The instructions that push, and those that pop after them -/

/-- No instruction changes IMPL_SET (R10). -/
theorem runs_of_exec {i j : Instr} (h : exec i s = .next t) (hj : Runs j s) : Runs j t := by
  rw [Runs, (exec_effect i s t h).frame_apart.cfg]
  exact hj

theorem exec_push_pushed {p : StackPair} (hi : Runs (pushForm p) s) :
    Ensures (exec (pushForm p) s) (Pushed (getPair (stackPair p) s) s) := by
  rw [(HasRule.push p rfl).exec_eq hi]
  exact (push16_pushed _ s).andThen fun _ hu => ensures_next (hu.advance .one)

theorem exec_call_pushed {x : Word} (hi : Runs (.call x) s) (hd : s.cfg.diagEnabled = false) :
    Ensures (exec (.call x) s) (Pushed (s.pc + 3) s) := by
  rw [(HasRule.call x).exec_eq hi, callRule_plain (.inl hd)]
  exact (push16_pushed _ s).andThen fun _ hu => ensures_next (hu.jumpTo x)

theorem Pushed.exec_pop {p : StackPair} (h : Pushed v s t) (hi : Runs (popForm p) t) :
    exec (popForm p) t = .next (Machine.advance .one
      (setPair (stackPair p) (concat (byteAt t (s.sp - 1)) (byteAt t (s.sp - 2))) { t with sp := s.sp })) := by
  rw [(HasRule.pop p rfl).exec_eq hi, popRule, h.pop16, andThen_next]

theorem Pushed.exec_ret (h : Pushed v s t) (hi : Runs .ret t) :
    exec .ret t = .next
      (Machine.jumpTo (concat (byteAt t (s.sp - 1)) (byteAt t (s.sp - 2))) { t with sp := s.sp }) := by
  rw [(HasRule.ret (by simp)).exec_eq hi, retRule, returnTo, h.pop16, andThen_next]

/-! ### The statement -/

theorem getPair_advance (n : InstrLen) (p : Pair) (s : State) : getPair p (advance n s) = getPair p s := by
  cases p <;> rfl

/-- The pairs of PUSH and POP leave SP (R104). -/
theorem setPair_stackPair_sp (p : StackPair) (v : Word) (s : State) : (setPair (stackPair p) v s).sp = s.sp := by
  cases p <;> rfl

/-- Settles O48: what the push leaves, the pop after it finds, whether PUSH or CALL made it. -/
theorem stackRoundTrips : Obligations.StackRoundTrips := by
  refine ⟨fun p s t u hpush hpop hne hst htu => ?pushPop, fun p s t hpush hpop hst => ?popCompletes,
    fun x s t hcall hret hd hne hst => ?callRet⟩
  case pushPop =>
    have hpushed := exec_push_pushed hpush t hst
    rw [hpushed.exec_pop (runs_of_exec hst hpop), hpushed.word_eq hne] at htu
    cases htu
    exact ⟨by rw [getPair_advance, getPair_setPair_same], by rw [advance_sp, setPair_stackPair_sp]⟩
  case popCompletes => exact ⟨_, (exec_push_pushed hpush t hst).exec_pop (runs_of_exec hst hpop)⟩
  case callRet =>
    have hpushed := exec_call_pushed hcall hd t hst
    exact ⟨_, hpushed.exec_ret (runs_of_exec hst hret), hpushed.word_eq hne, rfl⟩

end Sys2Proof.Machine
end

section
/-! FALLBACK_LEN where no difference is configured (R273), and the rows of port I/O, interrupt enable and machine control
(R260 to R266): each row by the rule it has. -/

open Sys2Proof.Claims

namespace Sys2Proof.Machine

variable {s : State} {i : Instr}

/-! ### The default of FALLBACK_LEN (R109, R273) -/

theorem fallbackLen_default {g : MachineConfig} {op : Byte} (h : ∀ n, (op, n) ∉ g.fallbackLens) :
    fallbackLen g op = defaultFallbackLen op := by
  have hnone : g.fallbackLens.lookup op = none :=
    List.lookup_eq_none_iff.2 fun p hp => bne_iff_ne.2 fun hop => h p.2 (hop ▸ hp)
  rw [fallbackLen, hnone]

theorem bytes_defaultFallbackLen (i : Instr) :
    (defaultFallbackLen i.opcode).bytes = if i.opcode ∈ aliasOpcodes then 1 else (encode i).length := by
  simp only [defaultFallbackLen, List.contains_iff_mem, length_encode]
  split <;> rfl

/-- By default the fallback of a one-byte row advances PC by 1, whether or not the row is an alias. -/
theorem bytes_fallbackLen_of_length_encode {g : MachineConfig} (hn : ∀ n, (i.opcode, n) ∉ g.fallbackLens)
    (hlen : (encode i).length = 1) : (fallbackLen g i.opcode).bytes = 1 := by
  rw [fallbackLen_default hn, bytes_defaultFallbackLen, hlen, ite_self]

/-- Settles O17: every row outside IMPL_SET takes the fallback, whose default length is that of its encoding or an
alias's 1. -/
theorem fallbackChangesOnlyPc : Obligations.FallbackChangesOnlyPc := by
  refine ⟨fun i s => exec_of_not_implemented, fun i g hn => ?_⟩
  rw [fallbackLen_default hn, bytes_defaultFallbackLen, aliasOpcodes]

/-! ### IN and OUT (R260, R261) -/

theorem inRule_of_callback {p8 : Byte} (hcb : s.cbIn = true) : inRule p8 s =
    .next (advance .two { emit (.ioIn p8 (hostAnswer s).1) (hostAnswer s).2 with a := (hostAnswer s).1 }) := if_pos hcb

theorem inRule_of_no_callback {p8 : Byte} (hcb : s.cbIn = false) :
    inRule p8 s = .next (advance .two { (draw s).2 with a := (draw s).1 }) := if_neg (ne_true_of_eq_false hcb)

theorem hostAnswer_of_cons {v : Byte} {rest : List Byte} (h : s.inAnswers = v :: rest) :
    hostAnswer s = (v, { s with inAnswers := rest }) := by
  simp only [hostAnswer, h]

theorem hostAnswer_of_nil (h : s.inAnswers = []) : hostAnswer s = draw s := by
  simp only [hostAnswer, h]

/-- Settles O49: the rule takes the queued answer or a drawn byte, and records an event only with a callback. -/
theorem inputFromPort : Obligations.InputFromPort := by
  refine fun p8 => ⟨rfl, fun s hi => ?_⟩
  rw [(HasRule.inPort p8).exec_eq hi]
  refine ⟨fun v rest hcb hqueue => ?queued, fun hcb hqueue => ⟨(draw s).1, ?drawn⟩,
    fun hcb => ⟨(draw s).1, inRule_of_no_callback hcb⟩⟩
  case queued =>
    rw [inRule_of_callback hcb, hostAnswer_of_cons hqueue]
    rfl
  case drawn =>
    rw [inRule_of_callback hcb, hostAnswer_of_nil hqueue]
    rfl

/-- Settles O50: the rule emits the event only with a callback, and then advances PC. -/
theorem outputToPort : Obligations.OutputToPort := by
  refine fun p8 => ⟨rfl, fun s hi => ?_⟩
  rw [(HasRule.outPort p8).exec_eq hi, outRule]
  refine ⟨fun hcb => ?sent, fun hcb => ?noCallback⟩
  case sent =>
    rw [if_pos hcb]
    rfl
  case noCallback =>
    rw [if_neg (ne_true_of_eq_false hcb)]
    rfl

/-! ### EI, DI, NOP and its aliases, HLT (R262 to R266) -/

/-- DI has the effect of NOP: it leaves IE (R263). -/
theorem exec_di_or_nop (hmem : i ∈ [.di, .nop, .nop08, .nop10, .nop18, .nop20, .nop28, .nop30, .nop38])
    (hi : Runs i s) : exec i s = .next { s with pc := s.pc + 1 } := by
  rcases List.mem_cons.1 hmem with rfl | hnop
  · exact HasRule.di.exec_eq hi
  · exact (HasRule.nop hnop).exec_eq hi

theorem length_encode_di_or_nop
    (hmem : i ∈ [.di, .nop, .nop08, .nop10, .nop18, .nop20, .nop28, .nop30, .nop38]) : (encode i).length = 1 := by
  fin_cases hmem <;> rfl

/-- Settles O51: each row by its rule; the fallback of the nine rows has the length of one byte by default. -/
theorem enableInterruptAndNoOperation : Obligations.EnableInterruptAndNoOperation := by
  refine ⟨rfl, rfl, rfl, rfl, rfl, rfl, rfl, rfl, rfl, rfl, fun s => HasRule.ei.exec_eq, fun i s hmem =>
    ⟨exec_di_or_nop hmem, exec_of_not_runs, fun hi hn => ?fallback⟩⟩
  case fallback =>
    rw [exec_of_not_runs hi, skipped, bytes_fallbackLen_of_length_encode hn (length_encode_di_or_nop hmem)]
    rfl

/-- Settles O52: the rule of HLT is a refusal, and outside IMPL_SET its fallback has the length of one byte by
default. -/
theorem haltIsRefusedOrSkipped : Obligations.HaltIsRefusedOrSkipped := by
  refine ⟨rfl, fun s => ⟨HasRule.hlt.exec_eq, exec_of_not_runs, fun hnil => ?defaultLength⟩⟩
  case defaultLength =>
    have hn (n : InstrLen) : (Instr.hlt.opcode, n) ∉ s.cfg.fallbackLens := hnil ▸ List.not_mem_nil
    exact bytes_fallbackLen_of_length_encode hn rfl

end Sys2Proof.Machine
end

section
/-! The course of an instruction on two machines, one with its breakpoints hidden: the memory accesses in their order,
and the state between them. One case split over the rules says it of every row; the state a fault leaves, and that
breakpoints do not interfere, are both read off it. -/

open Sys2Proof.Claims

namespace Sys2Proof.Machine

variable {s : State} {i : Instr} {o o' : Answer} {rule : State → Answer}

/-- An instruction that began in `s` can be in `t` before it ends: PC, SP, the flags and the configuration are kept, and
the callback's reads have only been used up. -/
structure Underway (s t : State) : Prop where
  pc : t.pc = s.pc
  sp : t.sp = s.sp
  flags : t.flags = s.flags
  cfg : t.cfg = s.cfg
  bpReads : t.bpReads <:+ s.bpReads

theorem underway_setReg (r : Reg8) (v : Byte) (s : State) : Underway s (setReg r v s) where
  pc := setReg_pc s r v
  sp := setReg_sp s r v
  flags := setReg_flags s r v
  cfg := setReg_cfg s r v
  bpReads := by rw [setReg_bpReads]

theorem underway_emit (ev : Event) (s : State) : Underway s (emit ev s) := ⟨rfl, rfl, rfl, rfl, List.suffix_refl _⟩

theorem memWrite_underway (x : Word) (v : Byte) (s : State) : Ensures (memWrite x v s) (Underway s) := by
  intro t h
  obtain ⟨-, -, rfl⟩ := memWrite_eq_next.1 h
  exact ⟨rfl, rfl, rfl, rfl, readsLeft_suffix s x⟩

/-- `Course s o' o`: from `s` with its breakpoints hidden and from `s` itself the same accesses are made, one after the
other, and lead to the answers `o'` and `o`. -/
inductive Course : State → Answer → Answer → Prop
  /-- The instruction ends. -/
  | next {s t t' : State} (h : t' = hideBreakpoints t) : Course s (.next t') (.next t)
  /-- The model refuses. -/
  | refuse {s : State} (i : RefusalInfo) : Course s (refuse i (hideBreakpoints s)) (refuse i s)
  /-- A read, and what follows for each byte it may answer. -/
  | read {s : State} {x : Word} {k' k : Byte → Answer} (h : ∀ v, Course s (k' v) (k v)) :
      Course s (andThen (memRead x (hideBreakpoints s)) k') (andThen (memRead x s) k)
  /-- A write, and what follows from each state it may leave. -/
  | write {s : State} {x : Word} {v : Byte} {k' k : State → Answer}
      (h : ∀ t, Underway s t → Course t (k' (hideBreakpoints t)) (k t)) :
      Course s (andThen (memWrite x v (hideBreakpoints s)) k') (andThen (memWrite x v s) k)
  /-- A change of the state between two accesses. -/
  | pass {s t : State} {o' o : Answer} (hst : Underway s t) (h : Course t o' o) : Course s o' o

/-! ### How courses are composed -/

theorem andThen_refuse {α β : Type} (i : RefusalInfo) (s : State) (k : α → Host.Outcome β Fault Refusal) :
    andThen (refuse i s) k = refuse i s := by cases i <;> rfl

/-- An update that ends the instruction and does not look at the breakpoints may follow any course. -/
theorem Course.andThen_next {f : State → State} (h : Course s o' o)
    (hf : ∀ t, f (hideBreakpoints t) = hideBreakpoints (f t)) :
    Course s (andThen o' fun t => .next (f t)) (andThen o fun t => .next (f t)) := by
  induction h with
  | @next s t t' ht =>
    subst ht
    exact .next (hf t)
  | refuse i =>
    rw [andThen_refuse, andThen_refuse]
    exact .refuse i
  | read h ih =>
    simp only [andThen_assoc]
    exact .read ih
  | write h ih =>
    simp only [andThen_assoc]
    exact .write ih
  | pass hst h ih => exact .pass hst ih

/-- A branch on what the hidden breakpoints leave as it is. -/
theorem course_ite {c : Prop} [Decidable c] {p' p q' q : Answer} (hp : c → Course s p' p) (hq : ¬ c → Course s q' q) :
    Course s (if c then p' else q') (if c then p else q) := by
  split
  next hc => exact hp hc
  next hc => exact hq hc

theorem getReg_hideBreakpoints (r : Reg8) (s : State) : getReg r (hideBreakpoints s) = getReg r s := by
  cases r <;> rfl

theorem setReg_hideBreakpoints (r : Reg8) (v : Byte) (s : State) :
    setReg r v (hideBreakpoints s) = hideBreakpoints (setReg r v s) := by cases r <;> rfl

theorem getPair_hideBreakpoints (p : Pair) (s : State) : getPair p (hideBreakpoints s) = getPair p s := by
  cases p <;> rfl

theorem setPair_hideBreakpoints (p : Pair) (v : Word) (s : State) :
    setPair p v (hideBreakpoints s) = hideBreakpoints (setPair p v s) := by cases p <;> rfl

theorem hostAnswer_hideBreakpoints (s : State) :
    hostAnswer (hideBreakpoints s) = ((hostAnswer s).1, hideBreakpoints (hostAnswer s).2) := by
  cases h : s.inAnswers with
  | nil =>
    rw [hostAnswer_of_nil h, hostAnswer_of_nil (s := hideBreakpoints s) h]
    rfl
  | cons v rest =>
    rw [hostAnswer_of_cons h, hostAnswer_of_cons (s := hideBreakpoints s) h]
    rfl

/-- The operand of an ALU rule, a register or M (R103). -/
theorem course_readOperand (src : Operand8) {k' k : Byte → Answer} (h : ∀ v, Course s (k' v) (k v)) :
    Course s (andThen (readOperand src (hideBreakpoints s)) k') (andThen (readOperand src s) k) := by
  cases src with
  | reg r =>
    simp only [readOperand, andThen_next, getReg_hideBreakpoints]
    exact h _
  | m => exact .read h

/-- The destination of a rule, a register or M (R103). -/
theorem course_writeOperand (dst : Operand8) (v : Byte) {k' k : State → Answer}
    (h : ∀ t, Course t (k' (hideBreakpoints t)) (k t)) :
    Course s (andThen (writeOperand dst v (hideBreakpoints s)) k') (andThen (writeOperand dst v s) k) := by
  cases dst with
  | reg r =>
    simp only [writeOperand, andThen_next, setReg_hideBreakpoints]
    exact .pass (underway_setReg r v s) (h _)
  | m => exact .write fun t _ => h t

theorem course_push16 (v : Word) (s : State) : Course s (push16 v (hideBreakpoints s)) (push16 v s) :=
  .write fun _ _ => .write fun _ _ => .next rfl

/-- A pop, and the update with the word popped that ends the instruction. -/
theorem course_pop16 {f : Word × State → State}
    (hf : ∀ w t, f (w, hideBreakpoints t) = hideBreakpoints (f (w, t))) :
    Course s (andThen (pop16 (hideBreakpoints s)) fun r => .next (f r)) (andThen (pop16 s) fun r => .next (f r)) := by
  simp only [pop16, andThen_assoc, andThen_next]
  exact .read fun lo => .read fun hi => .next (hf (concat hi lo) { s with sp := s.sp + 2 })

theorem course_callTo (ret target : Word) (s : State) :
    Course s (callTo ret target (hideBreakpoints s)) (callTo ret target s) :=
  (course_push16 ret s).andThen_next fun _ => rfl

theorem course_returnTo (s : State) : Course s (returnTo (hideBreakpoints s)) (returnTo s) :=
  course_pop16 (f := fun r => jumpTo r.1 r.2) fun _ _ => rfl

/-! ### The rules -/

theorem course_movRule (dst src : Operand8) (s : State) :
    Course s (movRule dst src (hideBreakpoints s)) (movRule dst src s) :=
  course_readOperand src fun v => course_writeOperand dst v fun _ => .next rfl

theorem course_mviRule (dst : Operand8) (d8 : Byte) (s : State) :
    Course s (mviRule dst d8 (hideBreakpoints s)) (mviRule dst d8 s) :=
  course_writeOperand dst d8 fun _ => .next rfl

theorem course_operandRule {alu : Byte → State → State} (src : Operand8)
    (ha : ∀ v, alu v (hideBreakpoints s) = hideBreakpoints (alu v s)) :
    Course s (operandRule alu src (hideBreakpoints s)) (operandRule alu src s) :=
  course_readOperand src fun v => .next (congrArg (advance .one) (ha v))

theorem course_inrRule (dst : Operand8) (s : State) : Course s (inrRule dst (hideBreakpoints s)) (inrRule dst s) :=
  course_readOperand dst fun v => course_writeOperand dst (v + 1) fun _ => .next rfl

theorem course_dcrRule (dst : Operand8) (s : State) : Course s (dcrRule dst (hideBreakpoints s)) (dcrRule dst s) :=
  course_readOperand dst fun v => course_writeOperand dst (v - 1) fun _ => .next rfl

/-- LHLD makes its second read with L written (R138). -/
theorem course_lhldRule (a16 : Word) (s : State) : Course s (lhldRule a16 (hideBreakpoints s)) (lhldRule a16 s) :=
  .read fun lo => .pass (underway_setReg .l lo s) (.read (s := setReg .l lo s) fun _ => .next rfl)

theorem course_consoleString (left : Nat) (x : Word) (s : State) :
    Course s (consoleString left x (hideBreakpoints s)) (consoleString left x s) := by
  induction left generalizing x s with
  | zero => exact .refuse (.diagUnterminated (getDE s))
  | succ left ih =>
    exact .read fun ch => course_ite (fun _ => .next rfl) fun _ => .pass (underway_emit (.console ch) s) (ih _ _)

theorem course_diagConsole (s : State) : Course s (diagConsole (hideBreakpoints s)) (diagConsole s) :=
  course_ite (fun _ => course_consoleString _ _ s) fun _ => .next rfl

theorem course_callRule (a16 : Word) (s : State) : Course s (callRule a16 (hideBreakpoints s)) (callRule a16 s) :=
  course_ite (fun _ => .next rfl) fun _ =>
    course_ite (fun _ => (course_diagConsole s).andThen_next fun _ => rfl) fun _ => course_callTo _ a16 s

theorem course_inRule (p8 : Byte) (s : State) : Course s (inRule p8 (hideBreakpoints s)) (inRule p8 s) := by
  refine course_ite (fun _ => .next ?_) fun _ => .next rfl
  rw [hostAnswer_hideBreakpoints]
  rfl

theorem course_outRule (p8 : Byte) (s : State) : Course s (outRule p8 (hideBreakpoints s)) (outRule p8 s) := by
  refine .next ?_
  cases h : s.cbOut <;> simp [hideBreakpoints, h, advance, emit, isNotice]

/-- Every row's rule is a course. -/
theorem HasRule.course (hr : HasRule rule i) (s : State) : Course s (rule (hideBreakpoints s)) (rule s) := by
  cases hr with
  | mov | movFromM | movToM => exact course_movRule _ _ s
  | mvi | mviM => exact course_mviRule _ _ s
  | add | adc | sub | sbb | ana | xra | ora | cmp => exact course_operandRule _ fun _ => rfl
  | inr | inrM => exact course_inrRule _ s
  | dcr | dcrM => exact course_dcrRule _ s
  | inx p | dcx p =>
    refine .next ?_
    rw [getPair_hideBreakpoints, setPair_hideBreakpoints]
    rfl
  | lxi p d16 => exact .next (congrArg (advance .three) (setPair_hideBreakpoints p d16 s))
  | dad p =>
    refine .next ?_
    rw [getPair_hideBreakpoints]
    rfl
  | adi | aci | sui | sbi | ani | xri | ori | cpi | daa | rlc | rrc | ral | rar | cma | cmc | stc | xchg | jmp | pchl
  | sphl | ei | di | nop => exact .next rfl
  | lda => exact .read fun _ => .next rfl
  | ldax p =>
    rw [ldaxRule, getPair_hideBreakpoints]
    exact .read fun _ => .next rfl
  | lhld a16 => exact course_lhldRule a16 s
  | sta => exact .write fun _ _ => .next rfl
  | stax p =>
    rw [staxRule, getPair_hideBreakpoints]
    exact .write fun _ _ => .next rfl
  | shld => exact .write fun _ _ => .write fun _ _ => .next rfl
  | jcc => exact course_ite (fun _ => .next rfl) fun _ => .next rfl
  | call a16 => exact course_callRule a16 s
  | callAlias | rst => exact course_callTo _ _ s
  | ccc => exact course_ite (fun _ => course_callTo _ _ s) fun _ => .next rfl
  | ret => exact course_returnTo s
  | rcc => exact course_ite (fun _ => course_returnTo s) fun _ => .next rfl
  | push p =>
    rw [pushRule, getPair_hideBreakpoints]
    exact (course_push16 _ s).andThen_next fun _ => rfl
  | pushPsw => exact (course_push16 _ s).andThen_next fun _ => rfl
  | pop p =>
    exact course_pop16 (f := fun r => advance .one (setPair (stackPair p) r.1 r.2)) fun w t =>
      congrArg (advance .one) (setPair_hideBreakpoints (stackPair p) w t)
  | popPsw => exact course_pop16 (f := fun r => advance .one (setPSW r.1 r.2)) fun _ _ => rfl
  | xthl => exact .read fun _ => .read fun _ => .write fun _ _ => .write fun _ _ => .next rfl
  | inPort p8 => exact course_inRule p8 s
  | outPort p8 => exact course_outRule p8 s
  | hlt => exact .refuse (.haltUnmodelled s.pc)

/-- Every instruction is a course, its fallback (R272) one with no access. -/
theorem exec_course (i : Instr) (s : State) : Course s (exec i (hideBreakpoints s)) (exec i s) := by
  obtain ⟨rule, hr, he⟩ := exec_eq_dispatch i
  rw [he, he]
  exact course_ite (fun _ => hr.course s) fun _ => .next rfl

end Sys2Proof.Machine
end

section
/-! The state a fault leaves (R300 to R303, R307). -/

open Sys2Proof.Claims

namespace Sys2Proof.Machine

variable {s t : State} {f : Fault} {o o' : Answer} {x : Word} {v : Byte}

/-- The state that the fault `f` leaves has its information in RUN, and PC, SP and the flags of `s`. -/
def PreciseFrom (s : State) (f : Fault) : Prop :=
  (faultState f).run = .faulted (faultInfo f) ∧ (faultState f).pc = s.pc ∧ (faultState f).sp = s.sp ∧
    (faultState f).flags = s.flags

theorem PreciseFrom.of_underway (h : PreciseFrom t f) (hst : Underway s t) : PreciseFrom s f := by
  obtain ⟨hrun, hpc, hsp, hflags⟩ := h
  exact ⟨hrun, hpc.trans hst.pc, hsp.trans hst.sp, hflags.trans hst.flags⟩

theorem andThen_eq_fault {α β : Type} {p : Host.Outcome α Fault Refusal} {k : α → Host.Outcome β Fault Refusal} :
    andThen p k = .fault f ↔ p = .fault f ∨ ∃ w, p = .next w ∧ k w = .fault f := by
  cases p <;> simp

theorem refuse_ne_fault {α : Type} (i : RefusalInfo) (s : State) (f : Fault) :
    (refuse i s : Host.Outcome α Fault Refusal) ≠ .fault f := by
  cases i <;> simp [refuse]

theorem memRead_precise (h : memRead x s = .fault f) : PreciseFrom s f := by
  by_cases hread : Readable s x
  · rw [memRead_of_readable hread] at h
    cases h
  · rw [memRead_of_not_readable hread] at h
    cases h
    exact ⟨rfl, rfl, rfl, rfl⟩

/-- A write faults in a read of the callback it notifies, or in its own check; its notice is made before either. -/
theorem memWrite_precise (h : memWrite x v s = .fault f) : PreciseFrom s f := by
  cases hc : callbackFault x s with
  | some r =>
    rw [memWrite_of_callbackFault_some hc] at h
    cases h
    exact ⟨rfl, rfl, rfl, rfl⟩
  | none =>
    by_cases hw : Writable s x
    · rw [memWrite_of_writable (callbackInBounds_of_callbackFault_none hc) hw] at h
      cases h
    · rw [memWrite_eq_writeFault hc hw, writeFault] at h
      split at h <;> cases h <;> exact ⟨rfl, rfl, rfl, rfl⟩

/-- A course faults in one of its accesses, and what comes before an access leaves PC, SP and the flags. -/
theorem Course.precise (hc : Course s o' o) (h : o = .fault f) : PreciseFrom s f := by
  induction hc with
  | next => cases h
  | refuse i => exact absurd h (refuse_ne_fault i _ f)
  | read _ ih =>
    rcases andThen_eq_fault.1 h with hx | ⟨w, -, hk⟩
    · exact memRead_precise hx
    · exact ih w hk
  | write _ ih =>
    rcases andThen_eq_fault.1 h with hx | ⟨t, ht, hk⟩
    · exact memWrite_precise hx
    · have hst := memWrite_underway _ _ _ t ht
      exact (ih t hst hk).of_underway hst
  | pass hst _ ih => exact (ih h).of_underway hst

/-- Settles O54: every instruction is a course of accesses, before the end of which PC, SP and the flags are kept. -/
theorem faultsArePrecise : Obligations.FaultsArePrecise := fun i s _ h => (exec_course i s).precise h

end Sys2Proof.Machine
end

section
/-! Breakpoints do not interfere (R320, R323, R335). -/

open Sys2Proof.Claims

namespace Sys2Proof.Machine

variable {s t : State} {o o' : Answer} {x : Word} {v : Byte}

/-- Right after a notification a read of the callback is out of bounds, and `o` is that read's fault (R300, R335). -/
def CallbackFaults (s : State) (o : Answer) : Prop :=
  ∃ r ∈ s.bpReads.flatten, ¬ Readable s r ∧ ∃ t k x v earlier,
    o = .fault (.memReadOutOfBounds r (fold s.cfg r) t) ∧ t.trace = .breakpoint k x v :: earlier

/-- `o'`, the answer with breakpoints hidden, is the answer `o` with them hidden in it; or a callback faults. -/
def Unaffected (s : State) (o' o : Answer) : Prop := o' = hideInAnswer o ∨ CallbackFaults s o

/-! ### How the answers are composed -/

theorem CallbackFaults.andThen (h : CallbackFaults s o) (k : State → Answer) : CallbackFaults s (andThen o k) := by
  obtain ⟨r, hr, hread, t, kind, x, v, earlier, rfl, htrace⟩ := h
  exact ⟨r, hr, hread, t, kind, x, v, earlier, rfl, htrace⟩

/-- The reads still to be made later are among those of before, under the same configuration. -/
theorem Unaffected.of_later (h : Unaffected t o' o) (hcfg : t.cfg = s.cfg) (hreads : t.bpReads <:+ s.bpReads) :
    Unaffected s o' o := by
  refine h.imp_right fun ⟨r, hr, hread, hfault⟩ => ⟨r, ?_, ?_, ?_⟩
  · exact hreads.sublist.flatten.subset hr
  · rwa [Readable, hcfg] at hread
  · rwa [hcfg] at hfault

theorem Unaffected.andThen {k' k : State → Answer} (h : Unaffected s o' o)
    (hk : ∀ t, o = .next t → Unaffected s (k' (hideBreakpoints t)) (k t)) :
    Unaffected s (andThen o' k') (andThen o k) := by
  rcases h with rfl | h
  · cases o with
    | next t => exact hk t rfl
    | fault f => cases f <;> exact .inl rfl
    | refused r => cases r <;> exact .inl rfl
  · exact .inr (h.andThen k)

theorem unaffected_read {k' k : Byte → Answer} (h : ∀ v, Unaffected s (k' v) (k v)) :
    Unaffected s (andThen (memRead x (hideBreakpoints s)) k') (andThen (memRead x s) k) := by
  by_cases hread : Readable s x
  · have hread' : Readable (hideBreakpoints s) x := hread
    rw [memRead_of_readable hread, memRead_of_readable hread']
    exact h _
  · have hread' : ¬ Readable (hideBreakpoints s) x := hread
    rw [memRead_of_not_readable hread, memRead_of_not_readable hread']
    exact .inl rfl

/-! ### The notifications (R320 to R322) -/

/-- A notification changes nothing but what is hidden, or a read of its callback is out of bounds. -/
theorem notify_unaffected (k : BreakpointKind) (x : Word) (v : Byte) (s : State) :
    Unaffected s (.next (hideBreakpoints s)) (notify k x v s) := by
  cases hcb : s.cbBkpt with
  | false =>
    rw [notify_absent hcb]
    exact .inl rfl
  | true =>
    rw [notify_present hcb]
    cases hf : firstOutOfBounds s (s.bpReads.headD []) with
    | none =>
      rw [callbackReads_of_firstOutOfBounds_none (by exact hf)]
      exact .inl rfl
    | some r =>
      have hr : r ∈ s.bpReads.flatten := by
        have hmem : r ∈ s.bpReads.headD [] := List.mem_of_find?_eq_some hf
        cases hb : s.bpReads with
        | nil => simp [hb] at hmem
        | cons l rest => exact List.mem_flatten.2 ⟨l, List.mem_cons_self, by simpa [hb] using hmem⟩
      have hread : ¬ Readable s r := by simpa [Readable] using List.find?_some hf
      rw [callbackReads_of_firstOutOfBounds_some (by exact hf)]
      exact .inr ⟨r, hr, hread, _, k, x, v, s.trace, rfl, rfl⟩

theorem notifyWrite_unaffected (x : Word) (v : Byte) (s : State) :
    Unaffected s (.next (hideBreakpoints s)) (notifyWrite x v s) := by
  unfold notifyWrite
  split
  · exact notify_unaffected .memoryWrite x v s
  · exact .inl rfl

theorem opcodeBreakpoint_unaffected (s : State) :
    Unaffected s (opcodeBreakpoint (hideBreakpoints s)) (opcodeBreakpoint s) := by
  have hhidden : opcodeBreakpoint (hideBreakpoints s) = .next (hideBreakpoints s) :=
    opcodeBreakpoint_of_miss fun h => List.not_mem_nil h.2.1
  rw [hhidden, opcodeBreakpoint]
  split
  · exact notify_unaffected .opcodeReached s.pc _ { s with notices := s.notices + 1 }
  · exact .inl rfl

/-! ### The accesses -/

/-- A store looks at the configuration and the storage alone (R77, R78). -/
theorem storeByte_hideBreakpoints (x : Word) (v : Byte) (s : State) :
    storeByte x v (hideBreakpoints s) = hideInAnswer (storeByte x v s) := by
  simp only [storeByte, apply_ite hideInAnswer]
  rfl

/-- Only the notification of a write looks at the breakpoints (R321). -/
theorem memWrite_unaffected (x : Word) (v : Byte) (s : State) :
    Unaffected s (memWrite x v (hideBreakpoints s)) (memWrite x v s) :=
  (notifyWrite_unaffected x v s).andThen fun t _ =>
    Unaffected.andThen (.inl (storeByte_hideBreakpoints x v t)) fun _ _ => .inl rfl

/-- Each access is unaffected, and so is what follows it. -/
theorem Course.unaffected (hc : Course s o' o) : Unaffected s o' o := by
  induction hc with
  | next h => exact .inl (congrArg Host.Outcome.next h)
  | refuse i => cases i <;> exact .inl rfl
  | read _ ih => exact unaffected_read ih
  | @write s x v _ _ _ ih =>
    refine (memWrite_unaffected x v s).andThen fun t ht => ?_
    have hst := memWrite_underway x v s t ht
    exact (ih t hst).of_later hst.cfg hst.bpReads
  | pass hst _ ih => exact ih.of_later hst.cfg hst.bpReads

/-! ### The step -/

theorem unaffected_fetchInstr {k' k : Instr → Answer} (h : ∀ i, Unaffected s (k' i) (k i)) :
    Unaffected s (andThen (fetchInstr (hideBreakpoints s)) k') (andThen (fetchInstr s) k) := by
  simp only [fetchInstr, andThen_assoc]
  refine unaffected_read fun op => ?_
  have hcfg : (hideBreakpoints s).cfg = s.cfg := rfl
  rw [hcfg]
  cases fetchLen s.cfg op with
  | one => exact h _
  | two =>
    simp only [andThen_assoc]
    exact unaffected_read fun _ => h _
  | three =>
    simp only [andThen_assoc]
    exact unaffected_read fun _ => unaffected_read fun _ => h _

theorem exec_then_opcodeBreakpoint_unaffected (i : Instr) (s : State) :
    Unaffected s (andThen (exec i (hideBreakpoints s)) opcodeBreakpoint) (andThen (exec i s) opcodeBreakpoint) := by
  refine (exec_course i s).unaffected.andThen fun t ht => ?_
  have hframe := (exec_effect i s t ht).frame_apart
  exact (opcodeBreakpoint_unaffected t).of_later hframe.cfg hframe.bpReads

/-- Settles O60: the fetch and the instruction make the same accesses, and a notification changes nothing but what is
hidden, unless its callback reads out of bounds. -/
theorem breakpointsDoNotInterfere : Obligations.BreakpointsDoNotInterfere := by
  intro s
  change Unaffected s (instrStep (hideBreakpoints s)) (instrStep s)
  by_cases hr : s.run = .running
  · have hr' : (hideBreakpoints s).run = .running := hr
    rw [instrStep, instrStep, if_pos hr, if_pos hr']
    exact unaffected_fetchInstr (s := countStep s) fun i => exec_then_opcodeBreakpoint_unaffected i (countStep s)
  · have hr' : (hideBreakpoints s).run ≠ .running := hr
    rw [instrStep_of_not_running hr, instrStep_of_not_running hr']
    exact .inl rfl

end Sys2Proof.Machine
end

section
/-! Interrupt entry (R310 to R313). -/

open Sys2Proof.Claims

namespace Sys2Proof.Machine

variable {s : State} {n : Int} {o : Answer}

theorem vectorInRange_eq_true : vectorInRange n = true ↔ 0 ≤ n ∧ n ≤ 7 := by simp [vectorInRange]

/-- R312: a vector outside 0 to 7 is refused. -/
theorem interrupt_of_bad_vector (hr : s.run = .running) (hn : n < 0 ∨ 7 < n) :
    interrupt n s = refuse (.badVector n) s := by
  have hbad : ¬ vectorInRange n = true := by
    rw [vectorInRange_eq_true]
    omega
  rw [interrupt, if_neg (not_not_intro hr), if_pos (by simpa using hbad)]

/-- R311: an interrupt of a machine whose IE is clear is dropped. -/
theorem interrupt_of_disabled (hr : s.run = .running) (hn : vectorInRange n = true) (hie : s.ie = false) :
    interrupt n s = .next s := by
  rw [interrupt, if_neg (not_not_intro hr), if_neg (by simp [hn]), if_pos (by simp [hie])]

/-- R310, R313: an accepted interrupt is a call of its vector, and then IE by INT_CLEARS_IE. -/
theorem interrupt_of_enabled (hr : s.run = .running) (hn : vectorInRange n = true) (hie : s.ie = true) :
    interrupt n s = andThen (callTo s.pc (vectorAddress n.toNat) s) fun t =>
      .next { t with ie := t.ie && !s.cfg.intClearsIe } := by
  rw [interrupt, if_neg (not_not_intro hr), if_neg (by simp [hn]), if_neg (by simp [hie])]

/-- A rule that goes on after a push, which leaves IE, in the words of the statements (R210). -/
theorem pushThen_keeping_ie {v : Word} {k : State → Prop} {rest : State → Answer}
    (ho : o = andThen (push16 v s) rest) (hk : ∀ t, t.ie = s.ie → o = rest t → k t) : PushThen v s o k := by
  simp only [push16, andThen_assoc, andThen_next, highByte_eq_highOf, lowByte_eq_lowOf] at ho
  exact writeThen_of_andThen_memWrite ho fun _ _ _ h => writeThen_of_andThen_memWrite h fun _ _ _ => hk _ rfl

/-- Settles O53: RUN, the vector and IE decide, in this order; an accepted interrupt is one push, then PC and IE. -/
theorem interruptEntry : Obligations.InterruptEntry := by
  refine fun s n => ⟨fun hr h0 h7 hie => ?accepted, fun hr h0 h7 => ?masked, fun hr hn => ?badVector,
    interrupt_of_not_running⟩
  case accepted =>
    have hentry := interrupt_of_enabled hr (vectorInRange_eq_true.2 ⟨h0, h7⟩) hie
    rw [callTo, andThen_assoc] at hentry
    refine pushThen_keeping_ie hentry fun t ht h => h.trans ?_
    have hclear : (t.ie && !s.cfg.intClearsIe) = decide (s.cfg.intClearsIe = false) := by
      rw [ht, hie]
      cases s.cfg.intClearsIe <;> rfl
    simp only [andThen_next, jumpTo_ie, hclear]
    rfl
  case masked => exact interrupt_of_disabled hr (vectorInRange_eq_true.2 ⟨h0, h7⟩)
  case badVector => exact interrupt_of_bad_vector hr hn

end Sys2Proof.Machine
end

section
/-! The machine after construction (R340), and the host's calls reset() and init() (R341, R342). -/

namespace Sys2Proof.Machine

variable {s : State}

/-- On a running machine the call `reset()` zeroes the CPU State (R341). -/
theorem hostCall_reset (hr : s.run = .running) : hostCall .reset s = .next (cpuReset s) := if_neg (not_not_intro hr)

/-- R342: on an admitted configuration init() does not refuse, and writes its three fields. -/
theorem init_of_valid {pcStart : Word} (hv : s.cfg.valid = true) :
    init pcStart s = .next { s with pc := pcStart, nsteps := 0, run := .running } := if_pos hv

/-- Settles O2: RUN decides whether the call reset() has an effect, and the configuration whether init() has. -/
theorem hostResetAndInit : Obligations.HostResetAndInit := by
  refine ⟨fun s hr => ?reset, fun s hr => ?terminal, fun s pcStart hv => ?init⟩
  case reset => exact hostCall_reset hr
  case terminal => exact hostCall_of_not_running hr
  case init => exact init_of_valid hv

/-- Settles O1: the values of a constructed machine, read off it field by field. -/
theorem resetStateIsZero : Obligations.ResetStateIsZero := by
  refine ⟨?registers, ?flags, ?ieAndEngine⟩
  case registers => exact ⟨rfl, rfl, rfl, rfl, rfl, rfl, rfl, rfl, rfl⟩
  case flags => exact ⟨rfl, rfl, rfl, rfl, rfl⟩
  case ieAndEngine => exact ⟨rfl, rfl, rfl, rfl, rfl, rfl, rfl⟩

/-- The configuration chosen for the reset state is one that R11, R70, R72 and R231 admit (notes/assumptions/1.md to
4.md): 64 KiB of RAM is the largest TOTAL, and HLT is not in IMPL_MIN. -/
theorem atReset_valid : MachineConfig.atReset.valid = true := by
  have hsize : MachineConfig.atReset.sizeOk = true := by decide
  have hmirror : MachineConfig.atReset.mirrorOk = true := by decide
  have hsentinel : MachineConfig.atReset.sentinelOk = true := by decide
  have himpl : MachineConfig.atReset.implOk = true := by decide
  have hvector : MachineConfig.atReset.vectorOk = true := by decide
  have hlists : MachineConfig.atReset.listsOk = true := by decide
  simp only [MachineConfig.valid, hsize, hmirror, hsentinel, himpl, hvector, hlists, Bool.and_self]

/-- A machine that lists no byte of storage and holds no breakpoint meets the invariant if its configuration is one the
spec admits. -/
theorem inv_of_empty (hv : s.cfg.valid = true) (hstore : s.store = []) (hwrite : s.bpWrite = [])
    (hopcode : s.bpOpcode = []) : Inv s where
  config := hv
  canonical := by rw [hstore]; rfl
  within := by rw [hstore]; rfl
  writeSet := by rw [hwrite]; rfl
  opcodeSet := by rw [hopcode]; rfl

/-- Settles O56: the reset state is empty, on a configuration the spec admits. -/
theorem resetMeetsInvariant : Obligations.ResetMeetsInvariant := inv_of_empty atReset_valid rfl rfl rfl

end Sys2Proof.Machine
end
